-- ==== Sys2Proof/Word.lean ====
section
/-! DEFINITION. The word types of the 7640: bytes of a frame, the yard minute (a counter that wraps), the set of event flags. -/
namespace Sys2Proof

/-- One byte of a frame (Table 10-2). -/
abbrev Byte := BitVec 8

/-- A yard minute: a count from 0 to 4,294,967,295 that goes on to 0 (Table 10-11, R180). -/
abbrev Minute := BitVec 32

/-- The sixteen event flags, in the bit order of Table 10-10 (R173, R176). -/
abbrev FlagSet := BitVec 16

/-- A CRC-16 register (R168). -/
abbrev Crc := BitVec 16

end Sys2Proof
end

