-- ==== Sys2Proof/Config.lean ====
section
/-! DEFINITION. What the part fixes: the sizes of its tables, the ranges of its numbers, and the bytes the manual leaves open. -/
namespace Sys2Proof.Config

/-- Pack Table entries (chapter 1). -/
def packCount : Nat := 4096
/-- Stacks: 64 bays of 8 positions (chapter 2). -/
def stackCount : Nat := 512
/-- Bays (chapter 2). -/
def bayCount : Nat := 64
/-- The most packs one stack list holds (R23). -/
def stackHeight : Nat := 7
/-- Truck slots (R75). -/
def slotCount : Nat := 24
/-- Lanes (R84). -/
def laneCount : Nat := 8
/-- Loaders (chapter 8). -/
def loaderCount : Nat := 8
/-- Task Pool entries (R120). -/
def poolSize : Nat := 512
/-- The greatest task id (R120). -/
def lastTaskId : Nat := 65535
/-- Entries the pool keeps free for the completion of a plan (R100). -/
def planReserve : Nat := 96
/-- The floor below which a creator other than the Plan Engine takes no entry while a plan is in flight (R100), and the survey
feeder's own floor (R30). -/
def creatorFloor : Nat := 97
/-- The most SURVEY tasks the feeder keeps in the pool (R30). -/
def surveyLimit : Nat := 16
/-- The greatest deck occupancy (R60). -/
def deckSize : Nat := 12
/-- Records the Shipment Log holds (R164). -/
def logSize : Nat := 32
/-- The greatest tag and the greatest visit number (R2, Table 5-1). -/
def lastTag : Nat := 4294967294
/-- The greatest value of a 32-bit counter that holds at its top (R75, Table 5-1). -/
def top32 : Nat := 4294967295
/-- The top of the estimate of one pack (R52). -/
def estimateTop : Nat := 24960
/-- The greatest value each sum of the stocktake record takes (Table 2-4). -/
def stocktakeTop : Nat := 4096

/-- The byte that stands for ALL as the scope of a STOCKTAKE request. The manual gives the value ALL (R39) and no byte for it.
DESIGN CHOICE (log 28): a free value. Safe. -/
opaque scopeAllRequest : Byte

/-- The byte that stands for the scope ALL in the answer to STOCKTAKE_QUERY (R41). DESIGN CHOICE (log 28): a free value. Safe. -/
opaque scopeAllAnswer : Byte

/-- Whether CFG_GET shows the waiting entry of an item whose list holds both a waiting entry and one in writing. The manual says "its
waiting or in-writing entry" (R188) and not which. DESIGN CHOICE (log 39): a free value. Safe. -/
opaque pendingShowsWaiting : Bool

/-- A body byte of a frame that the command's row does not carry: the place is counted from the first body byte. The rule says that the
byte is received (R169) and not what it is. DESIGN CHOICE (log 6): a free value. Safe. -/
opaque unreadByte (code place : Nat) : Byte

/-- The length byte of a frame whose code names no message: its row carries the code alone. DESIGN CHOICE (log 6): a free value. Safe. -/
opaque unreadLength (code : Nat) : Nat

end Sys2Proof.Config
end

