-- ==== Sys2Proof/Syntax.lean ====
section
/-! DEFINITION. The commands of the 7640: one constructor of Instr for each row of spec/opcode_table.json. A message row carries the
port its frame arrived on, the length its frame's length byte gives, and the fields its body carries, as the numbers on the wire:
the owning rule's own checks judge them (R171, R172). -/
namespace Sys2Proof

/-- The eleven link ports (Table 2): gate, tally, office, and one for each loader. -/
inductive Port where
  | g
  | t
  | o
  | l (loader : Fin 8)
deriving DecidableEq, Repr

/-- The seven attributes of a pack (Table 1-1). -/
structure Attrs where
  species : Nat
  grade : Nat
  thickness : Nat
  width : Nat
  length : Nat
  treatment : Nat
  moisture : Nat
deriving DecidableEq, Repr

/-- The body of PACK_IN and PACK_DEFINE (Table 10-5): `reserved` is bit 0 of the attribute block's last byte,
`hasWeight` the presence byte of the measured weight. -/
structure PackReq where
  tag : Nat
  attrs : Attrs
  reserved : Bool
  pieces : Nat
  volume : Nat
  hasWeight : Nat
  weight : Nat
deriving DecidableEq, Repr

/-- A key as it travels (Table 10-6): seven ANY markers, the reserved bit, and the value fields. -/
structure KeyReq where
  anySpecies : Bool
  anyThickness : Bool
  anyWidth : Bool
  anyTreatment : Bool
  anyGrade : Bool
  anyLength : Bool
  anyMoisture : Bool
  reserved : Bool
  species : Nat
  thickness : Nat
  width : Nat
  lengthMin : Nat
  lengthMax : Nat
  treatment : Nat
  moisture : Nat
deriving DecidableEq, Repr

/-- An order line as it travels (Table 10-7). -/
structure LineReq where
  want : Nat
  primaryGrade : Nat
  alternateGrade : Nat
  hasAlternate : Bool
  reserved : Bool
  primary : KeyReq
  alternate : KeyReq
deriving DecidableEq, Repr

/-- The body of ARRIVE (R76, Table 10-7): `cls` is the class byte, 0 NORMAL and 1 EXPRESS; `partialOk` the accept-partial byte;
`count` the line-count byte. -/
structure ArriveReq where
  visit : Nat
  cls : Nat
  tare : Nat
  gross : Nat
  maxPacks : Nat
  partialOk : Nat
  count : Nat
  lines : List LineReq
deriving DecidableEq, Repr

/-- The scope of a stocktake (R39). -/
inductive Scope where
  | zone (z : Nat)
  | all
deriving DecidableEq, Repr

/-- The commands, one constructor per row of spec/opcode_table.json, in the table's order. -/
inductive Instr where
  | status (p : Port) (len : Nat)
  | eventAck (p : Port) (len : Nat) (set : FlagSet)
  | arrive (p : Port) (len : Nat) (r : ArriveReq)
  | weigh (p : Port) (len : Nat) (visit gross : Nat)
  | gone (p : Port) (len : Nat) (visit : Nat)
  | cancel (p : Port) (len : Nat) (visit : Nat)
  | truckQuery (p : Port) (len : Nat) (selector value : Nat)
  | packIn (p : Port) (len : Nat) (r : PackReq)
  | deckPull (p : Port) (len : Nat) (tag : Nat)
  | deckQuery (p : Port) (len : Nat)
  | hello (p : Port) (len : Nat)
  | next (p : Port) (len : Nat)
  | lift (p : Port) (len : Nat) (id tag : Nat)
  | place (p : Port) (len : Nat) (id kind number : Nat)
  | putBack (p : Port) (len : Nat) (id : Nat)
  | fail (p : Port) (len : Nat) (id reason : Nat)
  | surveyReport (p : Port) (len : Nat) (id count : Nat) (tags : List Nat)
  | cfgSetBay (p : Port) (len : Nat) (kind index value : Nat)
  | cfgSetZone (p : Port) (len : Nat) (kind index value : Nat)
  | cfgSetDensity (p : Port) (len : Nat) (index value : Nat)
  | cfgSetUplift (p : Port) (len : Nat) (index value : Nat)
  | cfgSetWetDwell (p : Port) (len : Nat) (index value : Nat)
  | cfgSetMargin (p : Port) (len : Nat) (index value : Nat)
  | cfgSetMillMark (p : Port) (len : Nat) (kind index value : Nat)
  | cfgSetGateMark (p : Port) (len : Nat) (kind index value : Nat)
  | cfgSetAgeLimit (p : Port) (len : Nat) (index value : Nat)
  | cfgSetLaneCount (p : Port) (len : Nat) (index value : Nat)
  | cfgSetLaneZone (p : Port) (len : Nat) (index value : Nat)
  | cfgSetMaxDigDepth (p : Port) (len : Nat) (index value : Nat)
  | cfgSetTaskTimeout (p : Port) (len : Nat) (index value : Nat)
  | cfgSetSilenceLimit (p : Port) (len : Nat) (index value : Nat)
  | cfgSetPortRate (p : Port) (len : Nat) (index value : Nat)
  | cfgSetRoute (p : Port) (len : Nat) (index value : Nat)
  | cfgGet (p : Port) (len : Nat) (kind index : Nat)
  | hold (p : Port) (len : Nat) (tag : Nat)
  | free (p : Port) (len : Nat) (tag : Nat)
  | writeOff (p : Port) (len : Nat) (tag : Nat)
  | packDefine (p : Port) (len : Nat) (r : PackReq)
  | packQuery (p : Port) (len : Nat) (selector value : Nat)
  | stackQuery (p : Port) (len : Nat) (id : Nat)
  | acceptPartial (p : Port) (len : Nat) (visit : Nat)
  | loaderMode (p : Port) (len : Nat) (loader mode : Nat)
  | stocktake (p : Port) (len : Nat) (scope : Scope)
  | stocktakeQuery (p : Port) (len : Nat)
  | shipRead (p : Port) (len : Nat)
  | clockSet (p : Port) (len : Nat) (minute : Minute)
  | wetLevel (p : Port) (len : Nat) (level : Nat)
  | restart (p : Port) (len : Nat) (clear : Nat)
  | unknownMessage (p : Port) (code : Nat)
  | badCheckDiscard (p : Port)
  | gapTimeout (p : Port)
  | answerSent (p : Port) (strap : Bool)
  | promotion (slot : Nat)
  | taskTimerExpiry (id : Nat)
  | silenceTimerExpiry (loader : Fin 8)
  | yardMinute
  | pickStep
  | configWriteEnd
  | retainedWriteEnd
  | powerOn (strap : Bool)
  | resetPin (strap : Bool)
  | supplyFall
  | backupLapse
  | startSweep
  | startByteReceived (p : Port)
  | lengthByteDiscard (p : Port)
  | writeOfHeadBegins
deriving DecidableEq, Repr

end Sys2Proof
end

