-- ==== Sys2Proof/Decode.lean ====
section
/-! DEFINITION. The decoding of a table word. No row of spec/opcode_table.json gives bits: a command reaches the 7640 as a frame
(`Machine.frameCommand`), a timer or a pin, never as a word. -/
namespace Sys2Proof

/-- The command a word spells by the table's bits: none, for the table gives no row any (log 33). -/
def decodeTableWord (_nbits _w : Nat) : Option Instr := none

end Sys2Proof
end

