-- ==== Sys2Proof/Machine/State.lean ====
section
/-! DEFINITION. The state of the 7640 as plain data: every table, queue, timer, setting, flag, line and store the manual gives it, the
answers its ports hold, and the queue of commands that wait. Tables keyed by a number (packs, stacks, trucks, loaders, ports,
settings) are lists of (key, value) with keys strictly rising and no entry equal to what an unlisted key reads as. -/
namespace Sys2Proof.Machine

/-- Pack states (Table 1-2). -/
inductive PackState where
  | inbound | stored | reserved | onLoader | onTruck | lost | orphaned
deriving DecidableEq, Repr

/-- Where a pack is (R5). The place inside an ordered list (deck position, tier, load position) is the list's own: see
`State.packPosition`. -/
inductive Loc where
  | none
  | deck
  | stack (id : Nat)
  | loader (n : Nat)
  | truck (slot : Nat)
deriving DecidableEq, Repr

/-- The key through which a pack was picked (R46). -/
inductive MatchKind where
  | primary | alternate
deriving DecidableEq, Repr

/-- A reservation (R6). `line` is 1 to 6; `line` and `kind` are absent for a pack attached at a re-entry (R78). -/
structure Reservation where
  slot : Nat
  line : Option Nat
  kind : Option MatchKind
  frozen : Nat
deriving DecidableEq, Repr

/-- A pack record (Table 1-1). -/
structure Pack where
  tag : Nat
  attrs : Attrs
  pieces : Nat
  volume : Nat
  measured : Option Nat
  talliedAt : Minute
  storedAt : Option Minute
  state : PackState
  loc : Loc
  hold : Bool
  identified : Bool
  reservation : Option Reservation
  visit : Option Nat
  loadSeq : Option Nat
deriving DecidableEq, Repr

/-- A stack: its list, bottom first, and its suspect flag (Table 2-1). Height and pending arrivals are views:
`State.height`, `State.pendingArrivals`. -/
structure Stack where
  list : List Nat
  suspect : Bool
deriving DecidableEq, Repr

/-- The reason of a Survey Backlog entry (section 2.3). -/
inductive Reason where
  | suspect | stocktake
deriving DecidableEq, Repr

/-- The stocktake record (Table 2-4). -/
structure Stocktake where
  active : Bool
  scope : Option Scope
  requested : Nat
  surveyed : Nat
  found : Nat
  moved : Nat
  lost : Nat
  created : Nat
deriving DecidableEq, Repr

/-- A key as a truck record holds it (Table 3-1); an absent code field is ANY. -/
structure Key where
  species : Option Nat
  gradeLimit : Nat
  thickness : Option Nat
  width : Option Nat
  lengthMin : Nat
  lengthMax : Nat
  treatment : Option Nat
  moistureLimit : Nat
deriving DecidableEq, Repr

/-- An order line of a truck record (R44). -/
structure Line where
  want : Nat
  primary : Key
  alternate : Option Key
  filled : Nat
deriving DecidableEq, Repr

/-- Truck states (Table 5-3). -/
inductive TruckState where
  | waiting | admitted | planned | loading | stockWait | loaded | unloading | cancelling | released
deriving DecidableEq, Repr

/-- The flags of a truck record and of a shipment record (Table 5-1, Table 9-1). -/
structure TruckFlags where
  underrun : Bool
  overweightCut : Bool
  tareSuspect : Bool
  budgetRaised : Bool
  reentry : Bool
deriving DecidableEq, Repr

/-- A weigh result: the last Gm and E (R56). -/
structure WeighResult where
  gm : Nat
  e : Int
deriving DecidableEq, Repr

/-- A truck record (Table 5-1). The shortfall is the view `Truck.shortfall`, the returns-to-create list the view
`State.returnsOf`. -/
structure Truck where
  visit : Nat
  express : Bool
  promoted : Bool
  arrivalSeq : Nat
  waiting : Nat
  tare : Nat
  gross : Nat
  budget : Nat
  maxPacks : Nat
  partialOk : Bool
  lines : List Line
  state : TruckState
  lane : Option Nat
  load : List Nat
  lastSeq : Nat
  est : Nat
  flags : TruckFlags
  weigh : Option WeighResult
deriving DecidableEq, Repr

/-- One pack on some truck's returns-to-create list (Table 5-1, R122). -/
structure ReturnEntry where
  slot : Nat
  pack : Nat
deriving DecidableEq, Repr

/-- One entry of a plan's pick list (Table 6-2). -/
structure Pick where
  pack : Nat
  stack : Nat
  line : Nat
  kind : MatchKind
deriving DecidableEq, Repr

/-- The plan record (Table 6-2). `line` is 1 to 6, or absent when done; `abort` is true for CANCEL. `stackOrder` holds the stacks of the
pick list in the order in which each joined it: a stack keeps its place there while a pick remains in it (R110, R112). It is the model's
own field (log 43): the pick list alone does not tell the place of a stack whose earliest entry was withdrawn. -/
structure Plan where
  slot : Nat
  line : Option Nat
  picks : List Pick
  stackOrder : List Nat
  abort : Bool
  replanAfter : Bool
deriving DecidableEq, Repr

/-- The state of the Plan Engine (R98), a view: `State.engine`. -/
inductive EngineState where
  | idle | waitPool | waitYard | planning
deriving DecidableEq, Repr

/-- Task kinds (Table 7-3), in the numbering of Table 10-8. -/
inductive TaskKind where
  | put | dig | fetch | ret | survey
deriving DecidableEq, Repr

/-- Where a task's pack is to be lifted (Table 7-1). -/
inductive Source where
  | deck
  | stack (id : Nat)
  | lane (n : Nat)
deriving DecidableEq, Repr

/-- Where a task's pack is to be set down (Table 7-1); `absent` for a SURVEY. -/
inductive Dest where
  | stack (id : Nat)
  | lane (n : Nat)
  | unresolved
  | absent
deriving DecidableEq, Repr

/-- Task states (Table 7-1). -/
inductive TaskState where
  | queued | waitSpace | issued | lifted
deriving DecidableEq, Repr

/-- A running task timer: elapsed seconds, and the task timeout in force at the issue (R139). -/
structure Timer where
  elapsed : Nat
  timeout : Nat
deriving DecidableEq, Repr

/-- What a RETURN's lift cleared from its pack (Table 7-1). -/
structure Kept where
  reservation : Reservation
  visit : Option Nat
  loadSeq : Option Nat
deriving DecidableEq, Repr

/-- The destination a LIFT or REDIRECT answer names, with its expected tier (Table 10-8, bytes 12 to 15). -/
structure Target where
  dest : Dest
  tier : Nat
deriving DecidableEq, Repr

/-- A task record (Table 7-1). `liftTarget` is the destination and tier the LIFT answer gave, kept so that a repeated LIFT is
answered again as then (R131, log 26). -/
structure Task where
  id : Nat
  kind : TaskKind
  pack : Option Nat
  source : Source
  dest : Dest
  truck : Option Nat
  converted : Bool
  zone : Nat
  loader : Nat
  state : TaskState
  timer : Option Timer
  reason : Option Reason
  kept : Option Kept
  liftTarget : Option Target
deriving DecidableEq, Repr

/-- A place that keeps an order of the unfinished tasks that touch it (R126). -/
inductive Place where
  | stack (id : Nat)
  | lane (n : Nat)
deriving DecidableEq, Repr

/-- One task in one order (R126): the order of a place is the sublist of the state's touches that name it, oldest first. -/
structure Touch where
  place : Place
  task : Nat
deriving DecidableEq, Repr

/-- Office modes of a loader (Table 8-1), in the order R149 lists them. -/
inductive OfficeMode where
  | inService | stopped | offline
deriving DecidableEq, Repr

/-- Effective states of a loader (R144), in the order of the rows of R144's table. -/
inductive EffState where
  | offline | lost | stopped | active
deriving DecidableEq, Repr

/-- Result codes (Table 10-3). -/
inductive Result where
  | ok | unknownMessage | notOnThisPort | badLength | badField | starting | busy | deckFull | tableFull | duplicateTag
  | slotsFull | duplicateVisit | badOrder | noPayload | noSuchTruck | noSuchPack | noSuchStack | wrongState | notLoaded | noTask
  | stopped | offline | notYourTask | revoked | mismatch | redirect | holdPack | packMoving | bayOccupied | empty
deriving DecidableEq, Repr

/-- The loader requests that name a task (R130). -/
inductive TaskReq where
  | lift | place | putBack | fail | surveyReport
deriving DecidableEq, Repr

/-- Kinds of reset (R183), in the order R183 numbers them. -/
inductive ResetCause where
  | powerOn | resetPin | officeRestart | officeRestartClear
deriving DecidableEq, Repr

/-- The yard condition (R184). -/
inductive YardCond where
  | starting | ready
deriving DecidableEq, Repr

/-- A shipment record's entry (Table 9-1). -/
structure ShipEntry where
  tag : Nat
  line : Option Nat
  kind : Option MatchKind
deriving DecidableEq, Repr

/-- A shipment record (Table 9-1). -/
structure Shipment where
  visit : Nat
  minute : Minute
  gm : Option Nat
  tare : Nat
  est : Nat
  e : Option Int
  flags : TruckFlags
  entries : List ShipEntry
deriving DecidableEq, Repr

/-- The answer to STATUS (R173). -/
structure StatusView where
  cond : YardCond
  cause : ResetCause
  flags : FlagSet
  minute : Minute
  stale : Bool
  engine : EngineState
  trucks : Nat
  waiting : Nat
  packs : Nat
  tasks : Nat
  deck : Nat
  gateHold : Bool
  millHold : Bool
  ready : Bool
  loaders : List EffState
deriving DecidableEq, Repr

/-- The answer to an accepted ARRIVE (R76). -/
structure ArriveView where
  slot : Nat
  state : TruckState
  lane : Option Nat
  position : Option Nat
  budget : Nat
  attached : Nat
  gateHold : Bool
deriving DecidableEq, Repr

/-- The answer to an accepted WEIGH (R154): `overweight` is the outcome OVER, `x` the excess, `unload` the packs to be unloaded. -/
structure WeighView where
  overweight : Bool
  gm : Nat
  e : Int
  x : Nat
  unload : Nat
  state : TruckState
deriving DecidableEq, Repr

/-- A truck's standing with the Plan Engine (R95). -/
inductive Standing where
  | queued | inFlight | neither
deriving DecidableEq, Repr

/-- One pack of a load stack in the answer to TRUCK_QUERY (R95). -/
structure LoadRow where
  pack : Nat
  line : Option Nat
  kind : Option MatchKind
deriving DecidableEq, Repr

/-- The answer to TRUCK_QUERY (R95): the record, and the items taken at the moment of the query. -/
structure TruckView where
  truck : Truck
  shortfall : Nat
  position : Option Nat
  remaining : Nat
  outstanding : Nat
  loaded : Nat
  packCount : Nat
  tasks : Nat
  standing : Standing
  load : List LoadRow
  returns : Nat
deriving DecidableEq, Repr

/-- The answer to an accepted PACK_IN (R59). -/
structure PackInView where
  index : Nat
  position : Nat
  deckCount : Nat
  task : Option Nat
deriving DecidableEq, Repr

/-- A task's id, kind and state, as PACK_QUERY and HELLO give them (R20, R152). -/
structure TaskMark where
  id : Nat
  kind : TaskKind
  state : TaskState
deriving DecidableEq, Repr

/-- One pack of the deck in the answer to DECK_QUERY (R64). -/
structure DeckRow where
  index : Nat
  tag : Nat
  hold : Bool
  task : Option TaskMark
deriving DecidableEq, Repr

/-- The answer to DECK_QUERY (R64). -/
structure DeckView where
  count : Nat
  lifted : Nat
  millHold : Bool
  high : Nat
  low : Nat
  rows : List DeckRow
deriving DecidableEq, Repr

/-- How a loader's previous task ended, as HELLO gives it (R152): absent for REVOKED, else the request and its result. -/
structure PrevMark where
  id : Nat
  ended : Option (TaskReq × Result)
deriving DecidableEq, Repr

/-- The answer to HELLO (R152). -/
structure HelloView where
  loader : Nat
  mode : OfficeMode
  eff : EffState
  limit : Nat
  current : Option TaskMark
  previous : Option PrevMark
deriving DecidableEq, Repr

/-- A task as NEXT answers it (R129, Table 10-8). -/
structure TaskView where
  id : Nat
  kind : TaskKind
  tag : Option Nat
  source : Source
  sourceTier : Nat
  target : Target
deriving DecidableEq, Repr

/-- The four counts of a survey report (R32). -/
structure SurveyCounts where
  found : Nat
  moved : Nat
  lost : Nat
  created : Nat
deriving DecidableEq, Repr

/-- The answer to PACK_QUERY (R20). `position` is the place in the list that holds the pack (R5). -/
structure PackView where
  index : Nat
  pack : Pack
  position : Nat
  unrated : Bool
  estimate : Option Nat
  task : Option TaskMark
deriving DecidableEq, Repr

/-- One pack of a stack in the answer to STACK_QUERY (R42). -/
structure StackRow where
  index : Nat
  tag : Nat
  state : PackState
  hold : Bool
  identified : Bool
  slot : Option Nat
deriving DecidableEq, Repr

/-- The answer to STACK_QUERY (R42). -/
structure StackView where
  bay : Nat
  position : Nat
  zone : Nat
  enabled : Bool
  tierLimit : Nat
  covered : Bool
  height : Nat
  pending : Nat
  suspect : Bool
  backlog : Option Reason
  survey : Option Nat
  tasks : Nat
  packs : List StackRow
deriving DecidableEq, Repr

/-- An answer as the answer buffer holds it (R170). `only` carries the result code alone (R171); `deckRefusal` also carries the
deck count (R58), `notLoaded` the truck's state (R154), `offline` the fixed loader status (R151). -/
inductive Answer where
  | only (r : Result)
  | status (v : StatusView)
  | events (flags : FlagSet)
  | arrived (v : ArriveView)
  | weighed (v : WeighView)
  | notLoaded (state : TruckState)
  | gone (slot : Option Nat) (shipped : Nat) (written : Bool)
  | cancelled (slot : Nat) (state : Option TruckState) (toReturn : Nat)
  | truck (v : TruckView)
  | packIn (v : PackInView)
  | deckRefusal (r : Result) (count : Nat)
  | deckPulled (count : Nat)
  | deck (v : DeckView)
  | hello (v : HelloView)
  | task (r : Result) (v : TaskView)
  | target (r : Result) (id : Nat) (t : Target)
  | offline
  | surveyed (c : SurveyCounts)
  | cfgSet (kind index working : Nat) (pending : Bool)
  | cfgGet (kind working stored : Nat) (pending : Option Nat)
  | held (state : PackState) (withdrawn : Option Nat)
  | freed (state : PackState)
  | pack (v : PackView)
  | stack (v : StackView)
  | acceptPartial (state : TruckState)
  | loaderMode (mode : OfficeMode) (eff : EffState) (lost : Nat)
  | stocktake (requested : Nat)
  | stocktakeRecord (v : Stocktake)
  | shipment (v : Shipment) (left : Nat)
  | clock (minute : Minute) (stale : Bool)
  | wet (level : Nat)
  | restart (cause : ResetCause)
deriving DecidableEq, Repr

/-- How a loader ceased to hold its previous task (Table 7-2). -/
inductive PrevOutcome where
  | revoked
  | ended (req : TaskReq) (answer : Answer)
deriving DecidableEq, Repr

/-- A loader's previous task (Table 7-2). -/
structure Previous where
  id : Nat
  outcome : PrevOutcome
deriving DecidableEq, Repr

/-- A loader's dispatch record (Table 7-2) and supervision record (Table 8-1). `silence` is the elapsed time of a running silence
timer, absent when it is stopped. The effective state is the view `State.effective`. -/
structure Loader where
  mode : OfficeMode
  linked : Bool
  silence : Option Nat
  current : Option Nat
  previous : Option Previous
deriving DecidableEq, Repr

/-- A loader after a reset that found no retained office mode (R140, R153). -/
def Loader.initial : Loader := ⟨.inService, false, none, none, none⟩

/-- Port conditions (Table 10-1). -/
inductive PortCond where
  | hunting | receiving | answering
deriving DecidableEq, Repr

/-- An answer frame in the answer buffer: its code and its content (Table 10-2). -/
structure TxFrame where
  code : Nat
  answer : Answer
deriving DecidableEq, Repr

/-- A link port (Table 10-1): `rx` is the receive buffer, the bytes of the frame that followed its A5h (R169), `gap` tells whether the gap
timer runs, `rate` is the rate in force, numbered as kind 21 of Table 11-2. -/
structure PortRec where
  cond : PortCond
  rx : List Byte
  gap : Bool
  tx : Option TxFrame
  rate : Nat
deriving DecidableEq, Repr

/-- A port as a start opens it at the default rate (R184, R185). -/
def PortRec.initial : PortRec := ⟨.hunting, [], false, none, 2⟩

/-- The discrete outputs (Table 3): ATTN0 to ATTN5 in order, GATE_HOLD, MILL_HOLD, READY. -/
structure Pins where
  attn : List Bool
  gateHold : Bool
  millHold : Bool
  ready : Bool
deriving DecidableEq, Repr

/-- Every output released (R184). -/
def Pins.released : Pins := ⟨List.replicate 6 false, false, false, false⟩

/-- The Yard Clock (Table 10-11). -/
structure Clock where
  minute : Minute
  stale : Bool
  phase : Nat
deriving DecidableEq, Repr

/-- An entry of the configuration write list (R187): the item's key and its value. -/
structure WriteEntry where
  item : Nat
  value : Nat
deriving DecidableEq, Repr

/-- The content the Retained Store holds (R189). -/
structure RetainedRecord where
  packs : List (Nat × Pack)
  stackMap : List (Nat × Stack)
  deck : List Nat
  suspects : List Nat
  shipLog : List Shipment
  minute : Minute
  stale : Bool
  wet : Nat
  modes : List OfficeMode
deriving DecidableEq, Repr

/-- One image of the Retained Store (R189): `ok` tells whether its check matches its content. -/
structure Image where
  gen : Nat
  content : RetainedRecord
  ok : Bool
deriving DecidableEq, Repr

/-- The Retained Store (R189): two images, the content of an image write in progress, and the backup monitor's lapse record. -/
structure RetainedStore where
  a : Image
  b : Image
  write : Option RetainedRecord
  lapse : Bool
deriving DecidableEq, Repr

/-- What an event still owes the yard when its own changes are complete (log 14): the MODEL's own field, clear between steps.
`space` a space event (R71); `freed` pool entries freed or a plan ended (R122); `serve` packs put on a returns-to-create list (R92);
`puts` a pack put on the deck or the yard made READY (R62); `engine` the engine to be judged (R98); `feed` the feeder to run (R30);
`watch` the end of cancellations and unloadings to be judged (R93, R157); `take` the end of the stocktake (R40); `lanes` admission
(R85); `gate` GATE_HOLD (R82). -/
structure Marks where
  space : Bool := false
  freed : Bool := false
  serve : Bool := false
  puts : Bool := false
  engine : Bool := false
  feed : Bool := false
  watch : Bool := false
  take : Bool := false
  lanes : Bool := false
  gate : Bool := false
deriving DecidableEq, Repr

/-- The state of the 7640. -/
structure State where
  /-- the commands that wait, first in first out -/
  pending : List Instr
  /-- the main supply is present (R183) -/
  supply : Bool
  /-- the yard condition (R184) -/
  cond : YardCond
  /-- the reset cause (R183) -/
  cause : ResetCause
  /-- the DEFAULTS strap as the last start sampled it (R185) -/
  strap : Bool
  /-- the link ports, keyed 0 G, 1 T, 2 O, 3 to 10 L0 to L7 (Table 10-1) -/
  ports : List (Nat × PortRec)
  /-- the Pack Table's occupied entries by index (Table 1-1) -/
  packs : List (Nat × Pack)
  /-- the Stack Map by stack id (Table 2-1) -/
  stackMap : List (Nat × Stack)
  /-- the orders of stacks and lanes (R126) -/
  touches : List Touch
  /-- the Survey Backlog by stack id (section 2.3) -/
  backlog : List (Nat × Reason)
  /-- the stocktake record (Table 2-4) -/
  stocktake : Stocktake
  /-- the Deck Queue, head first (Table 4-1) -/
  deck : List Nat
  /-- the occupied truck slots (Table 5-1) -/
  trucks : List (Nat × Truck)
  /-- the arrival counter (R75) -/
  arrivals : Nat
  /-- the Waiting Queue, head first (R79) -/
  waiting : List Nat
  /-- the trucks' returns to create, in the order they joined (R122) -/
  returns : List ReturnEntry
  /-- the Plan Queue, head first (Table 6-1) -/
  planQueue : List Nat
  /-- the plan in flight (Table 6-1) -/
  plan : Option Plan
  /-- the Task Pool in creation order (Table 7-1) -/
  tasks : List Task
  /-- the id counter (R120) -/
  lastId : Nat
  /-- the loaders' records (Tables 7-2 and 8-1) -/
  loaders : List (Nat × Loader)
  /-- the Shipment Log, oldest first (R164) -/
  shipLog : List Shipment
  /-- the event flags (Table 10-10) -/
  flags : FlagSet
  /-- the discrete outputs (Table 3) -/
  pins : Pins
  /-- the Yard Clock (Table 10-11) -/
  clock : Clock
  /-- the wet level (R49) -/
  wet : Nat
  /-- the working settings that differ from the factory defaults, by item (Table 11-2) -/
  working : List (Nat × Nat)
  /-- the stored settings that differ from the factory defaults (R185) -/
  stored : List (Nat × Nat)
  /-- the configuration write list, head first (R187) -/
  writeList : List WriteEntry
  /-- the head of the write list is in writing (R187) -/
  writing : Bool
  /-- the Retained Store (R189) -/
  retained : RetainedStore
  /-- what the event in progress still owes the yard; clear between steps -/
  marks : Marks
deriving DecidableEq, Repr

/-- Why the machine stops. The manual describes no event that stops the 7640: every request is answered or discarded, every event
without an object changes nothing (log 27). No constructor; so no command faults. Safe. -/
inductive Fault where
deriving DecidableEq, Repr

/-- Why a command has no meaning. -/
inductive Refusal where
  /-- raised by an arm of exec whose command has no meaning in the model; no arm does. Safe. -/
  | notModelled (mnemonic : String)
deriving DecidableEq, Repr

/-- The stocktake record after every reset (R40). -/
def Stocktake.clear : Stocktake := ⟨false, none, 0, 0, 0, 0, 0, 0⟩

/-- The emptied yard record of R190 with the Yard Clock at a count and a stale flag. -/
def RetainedRecord.emptied (minute : Minute) (stale : Bool) : RetainedRecord :=
  ⟨[], [], [], [], [], minute, stale, 0, List.replicate 8 .inService⟩

/-- The Retained Store after a start that emptied the record: both images written, the lapse record cleared (R190). The generations
are a DESIGN CHOICE (log 11). -/
def RetainedStore.emptied (minute : Minute) (stale : Bool) : RetainedStore :=
  ⟨⟨0, .emptied minute stale, true⟩, ⟨1, .emptied minute stale, true⟩, none, false⟩

/-- The machine right after the first POWER_ON of a new part: the Configuration Store holds the factory defaults (R185), the Retained
Store was found invalid, so the yard record is empty (R190), the clock 0 and stale (R182), RETENTION_LOST set (R190), and the yard has
become READY (R193). Which start stands for reset is a DESIGN CHOICE (log 1). -/
def State.reset : State where
  pending := []
  supply := true
  cond := .ready
  cause := .powerOn
  strap := false
  ports := []
  packs := []
  stackMap := []
  touches := []
  backlog := []
  stocktake := .clear
  deck := []
  trucks := []
  arrivals := 0
  waiting := []
  returns := []
  planQueue := []
  plan := none
  tasks := []
  lastId := 0
  loaders := []
  shipLog := []
  flags := 0x4000#16
  pins := ⟨List.replicate 6 false, false, false, true⟩
  clock := ⟨0#32, true, 0⟩
  wet := 0
  working := []
  stored := []
  writeList := []
  writing := false
  retained := .emptied 0#32 true
  marks := {}

end Sys2Proof.Machine
end

