-- ==== Sys2Proof/Machine/Table.lean ====
section
/-! DEFINITION. Tables keyed by a number, as lists of (key, value) with keys strictly rising. -/
namespace Sys2Proof.Machine.Tab

/-- The value at a key, if the key is listed. -/
def get? {α : Type} : List (Nat × α) → Nat → Option α
  | [], _ => none
  | (i, v) :: t, k => if i = k then some v else get? t k

/-- The value at a key, or what an unlisted key reads as. -/
def getD {α : Type} (t : List (Nat × α)) (k : Nat) (d : α) : α := (get? t k).getD d

/-- The table with a value written at a key. -/
def put {α : Type} : List (Nat × α) → Nat → α → List (Nat × α)
  | [], k, v => [(k, v)]
  | (i, w) :: t, k, v =>
    if k < i then (k, v) :: (i, w) :: t
    else if k = i then (k, v) :: t
    else (i, w) :: put t k v

/-- The table without a key. -/
def erase {α : Type} : List (Nat × α) → Nat → List (Nat × α)
  | [], _ => []
  | (i, w) :: t, k => if i = k then erase t k else (i, w) :: erase t k

/-- A value written at a key of a table whose unlisted keys read as `d`: the entry goes when the value is `d`. -/
def putD {α : Type} [DecidableEq α] (d : α) (t : List (Nat × α)) (k : Nat) (v : α) : List (Nat × α) :=
  if v = d then erase t k else put t k v

/-- The table with the value at a listed key changed. -/
def modify {α : Type} (t : List (Nat × α)) (k : Nat) (f : α → α) : List (Nat × α) :=
  match get? t k with
  | none => t
  | some v => put t k (f v)

/-- The lowest key at or above `k` that is not listed, in a table whose keys rise (R1, R75). -/
def firstFree {α : Type} : List (Nat × α) → Nat → Nat
  | [], k => k
  | (i, _) :: t, k => if i = k then firstFree t (k + 1) else if i < k then firstFree t k else k

/-- The listed keys rise strictly from `k` on and stay below `n`. -/
def risesFrom {α : Type} (n : Nat) : List (Nat × α) → Nat → Bool
  | [], _ => true
  | (i, _) :: t, k => decide (k ≤ i) && decide (i < n) && risesFrom n t (i + 1)

/-- The canonical form of a table with `n` keys: keys strictly rising, all below `n`. -/
def wf {α : Type} (n : Nat) (t : List (Nat × α)) : Bool := risesFrom n t 0

end Sys2Proof.Machine.Tab
end

