-- ==== Sys2Proof/Machine/Flags.lean ====
section
/-! DEFINITION. The event flags (section 10.5) and the marks an event leaves for its end. -/
namespace Sys2Proof.Machine

/-- The sixteen events (Table 10-10). -/
inductive Event where
  | truckCalled | truckLoaded | truckShort | truckOverweight | truckUnderrun | taskTimeout | taskOverdue | loaderLost
  | packLost | stackSuspect | deckRefused | noSpace | logOverwrite | stocktakeDone | retentionLost | orphansPresent
deriving DecidableEq, Repr

/-- An event's bit number (Table 10-10). -/
def Event.bit : Event → Nat
  | .truckCalled => 0
  | .truckLoaded => 1
  | .truckShort => 2
  | .truckOverweight => 3
  | .truckUnderrun => 4
  | .taskTimeout => 5
  | .taskOverdue => 6
  | .loaderLost => 7
  | .packLost => 8
  | .stackSuspect => 9
  | .deckRefused => 10
  | .noSpace => 11
  | .logOverwrite => 12
  | .stocktakeDone => 13
  | .retentionLost => 14
  | .orphansPresent => 15

/-- The set that holds one event alone. -/
def Event.mask (e : Event) : FlagSet := 1#16 <<< e.bit

/-- The sixteen events in bit order. -/
def Event.all : List Event :=
  [.truckCalled, .truckLoaded, .truckShort, .truckOverweight, .truckUnderrun, .taskTimeout, .taskOverdue, .loaderLost,
    .packLost, .stackSuspect, .deckRefused, .noSpace, .logOverwrite, .stocktakeDone, .retentionLost, .orphansPresent]

/-- An event flag is yes (R174). -/
def State.flag (s : State) (e : Event) : Bool := s.flags.getLsbD e.bit

/-- An occurrence of an event's cause makes its flag yes, whether or not it is yes already (R174). -/
def State.raise (s : State) (e : Event) : State := { s with flags := s.flags ||| e.mask }

/-- An EVENT_ACK makes every flag its set names no (R176). -/
def State.acknowledge (s : State) (set : FlagSet) : State := { s with flags := s.flags &&& ~~~set }

/-- A space event has occurred (R71). -/
def State.markSpace (s : State) : State := { s with marks := { s.marks with space := true } }
/-- Pool entries have become free, or a plan has ended (R122). -/
def State.markFreed (s : State) : State := { s with marks := { s.marks with freed := true } }
/-- Packs have joined a returns-to-create list (R92, R156). -/
def State.markServe (s : State) : State := { s with marks := { s.marks with serve := true } }
/-- Deck packs may want a PUT task (R62). -/
def State.markPuts (s : State) : State := { s with marks := { s.marks with puts := true } }
/-- The engine is to be judged (R98). -/
def State.markEngine (s : State) : State := { s with marks := { s.marks with engine := true } }
/-- The survey feeder is to run (R30). -/
def State.markFeed (s : State) : State := { s with marks := { s.marks with feed := true } }
/-- Cancellations and unloadings are to be judged (R93, R157). -/
def State.markWatch (s : State) : State := { s with marks := { s.marks with watch := true } }
/-- The end of the stocktake is to be judged (R40). -/
def State.markTake (s : State) : State := { s with marks := { s.marks with take := true } }
/-- Admission is to be judged (R85). -/
def State.markAdmit (s : State) : State := { s with marks := { s.marks with lanes := true } }
/-- GATE_HOLD is to be judged (R82). -/
def State.markGate (s : State) : State := { s with marks := { s.marks with gate := true } }
/-- Nothing is owed. -/
def State.clearMarks (s : State) : State := { s with marks := {} }

end Sys2Proof.Machine
end

