-- ==== Sys2Proof/Machine/Settings.lean ====
section
/-! DEFINITION. The settings: the items of Table 11-2 with their index ranges, factory defaults (Table 11-1) and value ranges, and the
working value of each. -/
namespace Sys2Proof.Machine

/-- The setting kinds (Table 11-2). -/
inductive SettingKind where
  | bayEnabled | bayZone | bayTierLimit | bayCovered | zonePrimary | zonePartner | deckZone | density | uplift | wetDwell
  | margin | millHigh | millLow | gateHigh | gateLow | ageLimit | laneCount | laneZone | maxDigDepth | taskTimeout
  | silenceLimit | portRate | route
deriving DecidableEq, Repr

/-- A kind's number (Table 11-2). -/
def SettingKind.num : SettingKind → Nat
  | .bayEnabled => 0
  | .bayZone => 1
  | .bayTierLimit => 2
  | .bayCovered => 3
  | .zonePrimary => 4
  | .zonePartner => 5
  | .deckZone => 6
  | .density => 7
  | .uplift => 8
  | .wetDwell => 9
  | .margin => 10
  | .millHigh => 11
  | .millLow => 12
  | .gateHigh => 13
  | .gateLow => 14
  | .ageLimit => 15
  | .laneCount => 16
  | .laneZone => 17
  | .maxDigDepth => 18
  | .taskTimeout => 19
  | .silenceLimit => 20
  | .portRate => 21
  | .route => 22

/-- The kind a kind byte names; none outside Table 11-2 (R186). -/
def SettingKind.ofNum : Nat → Option SettingKind
  | 0 => some .bayEnabled
  | 1 => some .bayZone
  | 2 => some .bayTierLimit
  | 3 => some .bayCovered
  | 4 => some .zonePrimary
  | 5 => some .zonePartner
  | 6 => some .deckZone
  | 7 => some .density
  | 8 => some .uplift
  | 9 => some .wetDwell
  | 10 => some .margin
  | 11 => some .millHigh
  | 12 => some .millLow
  | 13 => some .gateHigh
  | 14 => some .gateLow
  | 15 => some .ageLimit
  | 16 => some .laneCount
  | 17 => some .laneZone
  | 18 => some .maxDigDepth
  | 19 => some .taskTimeout
  | 20 => some .silenceLimit
  | 21 => some .portRate
  | 22 => some .route
  | _ => none

/-- How many indices a kind has: index 0 alone where it takes none (Table 11-2, R186). -/
def SettingKind.count : SettingKind → Nat
  | .bayEnabled | .bayZone | .bayTierLimit | .bayCovered | .density => 64
  | .zonePrimary | .zonePartner | .laneZone => 8
  | .uplift => 4
  | .portRate => 11
  | .route => 16
  | .deckZone | .wetDwell | .margin | .millHigh | .millLow | .gateHigh | .gateLow | .ageLimit | .laneCount | .maxDigDepth
  | .taskTimeout | .silenceLimit => 1

/-- The value that stands for none: a partner or a route (R177, R186). -/
def settingNone : Nat := 255

/-- The factory default of an item (Table 11-1). -/
def SettingKind.factory (k : SettingKind) (i : Nat) : Nat :=
  match k with
  | .bayEnabled => if i < 32 then 1 else 0
  | .bayZone => i / 8
  | .bayTierLimit => 5
  | .bayCovered => 0
  | .zonePrimary => i
  | .zonePartner => settingNone
  | .deckZone => 0
  | .density => 0
  | .uplift => 4 * i
  | .wetDwell => 12
  | .margin => 400
  | .millHigh => 10
  | .millLow => 6
  | .gateHigh => 16
  | .gateLow => 10
  | .ageLimit => 45
  | .laneCount => 4
  | .laneZone => i
  | .maxDigDepth => 2
  | .taskTimeout => 300
  | .silenceLimit => 20
  | .portRate => 2
  | .route => settingNone

/-- The key an item has in a settings table and in the write list. Every index is below 64. -/
def SettingKind.key (k : SettingKind) (i : Nat) : Nat := 64 * k.num + i

/-- The value of an item in a table that lists what differs from the factory defaults. -/
def settingIn (t : List (Nat × Nat)) (k : SettingKind) (i : Nat) : Nat := Tab.getD t (k.key i) (k.factory i)

/-- The table with an item's value written. -/
def writeSetting (t : List (Nat × Nat)) (k : SettingKind) (i v : Nat) : List (Nat × Nat) :=
  Tab.putD (k.factory i) t (k.key i) v

/-- The working value of an item (R185). -/
def State.setting (s : State) (k : SettingKind) (i : Nat) : Nat := settingIn s.working k i

/-- The stored value of an item (R185). -/
def State.storedSetting (s : State) (k : SettingKind) (i : Nat) : Nat := settingIn s.stored k i

/-- The bay of a stack (section 2.1). -/
def bayOf (stack : Nat) : Nat := stack / 8

def State.bayEnabled (s : State) (bay : Nat) : Bool := s.setting .bayEnabled bay == 1
def State.bayZone (s : State) (bay : Nat) : Nat := s.setting .bayZone bay
def State.tierLimit (s : State) (bay : Nat) : Nat := s.setting .bayTierLimit bay
def State.bayCovered (s : State) (bay : Nat) : Bool := s.setting .bayCovered bay == 1
def State.zonePrimary (s : State) (zone : Nat) : Nat := s.setting .zonePrimary zone
/-- A zone's partner loader, or none (Table 2-3). -/
def State.zonePartner (s : State) (zone : Nat) : Option Nat :=
  let v := s.setting .zonePartner zone
  if v = settingNone then none else some v
def State.deckZone (s : State) : Nat := s.setting .deckZone 0
/-- The density entry of a species and a moisture class (R47, Table 11-2 kind 7). -/
def State.density (s : State) (species moisture : Nat) : Nat := s.setting .density (species * 4 + moisture)
def State.uplift (s : State) (level : Nat) : Nat := s.setting .uplift level
def State.wetDwell (s : State) : Nat := s.setting .wetDwell 0
def State.margin (s : State) : Nat := s.setting .margin 0
def State.millHigh (s : State) : Nat := s.setting .millHigh 0
def State.millLow (s : State) : Nat := s.setting .millLow 0
def State.gateHigh (s : State) : Nat := s.setting .gateHigh 0
def State.gateLow (s : State) : Nat := s.setting .gateLow 0
def State.ageLimit (s : State) : Nat := s.setting .ageLimit 0
def State.lanesInUse (s : State) : Nat := s.setting .laneCount 0
def State.laneZone (s : State) (lane : Nat) : Nat := s.setting .laneZone lane
def State.maxDigDepth (s : State) : Nat := s.setting .maxDigDepth 0
def State.taskTimeout (s : State) : Nat := s.setting .taskTimeout 0
def State.silenceLimit (s : State) : Nat := s.setting .silenceLimit 0
def State.portRate (s : State) (port : Nat) : Nat := s.setting .portRate port
/-- The line an event is routed to, or none (R177). -/
def State.route (s : State) (e : Event) : Option Nat :=
  let v := s.setting .route e.bit
  if v = settingNone then none else some v

end Sys2Proof.Machine
end

