-- ==== Sys2Proof/Machine/Operands.lean ====
section
/-! DEFINITION. The operands of the commands: the range checks of their fields, the records their fields make, and matching. -/
namespace Sys2Proof.Machine

/-- A tag or a visit number: 1 to 4,294,967,294; 0 and 4,294,967,295 are neither (R2, R76). -/
def validTag (n : Nat) : Bool := decide (1 ≤ n) && decide (n ≤ Config.lastTag)

/-- Every attribute is inside its range (Table 1-1). -/
def Attrs.inRange (a : Attrs) : Bool :=
  decide (a.species ≤ 15) && decide (a.grade ≤ 7) && decide (a.thickness ≤ 15) && decide (a.width ≤ 15) &&
    decide (a.length ≤ 15) && decide (a.treatment ≤ 3) && decide (a.moisture ≤ 3)

/-- The fields of PACK_IN and PACK_DEFINE other than the tag are in range (R4, R172). -/
def PackReq.fieldsOk (r : PackReq) : Bool :=
  Attrs.inRange r.attrs && !r.reserved && decide (1 ≤ r.pieces) && decide (r.pieces ≤ 9999) && decide (1 ≤ r.volume) &&
    decide (r.volume ≤ 16000) && decide (r.hasWeight ≤ 1) &&
    (r.hasWeight == 0 || (decide (1 ≤ r.weight) && decide (r.weight ≤ 20000)))

/-- The measured weight a request supplies, if it does (R4). -/
def PackReq.measured (r : PackReq) : Option Nat := if r.hasWeight = 1 then some r.weight else none

/-- The fields of a key are in range (R44, Table 10-6); where an ANY marker is set, the field is not read. -/
def KeyReq.fieldsOk (k : KeyReq) : Bool :=
  !k.reserved && !k.anyGrade && !k.anyLength && !k.anyMoisture && (k.anySpecies || decide (k.species ≤ 15)) &&
    (k.anyThickness || decide (k.thickness ≤ 15)) && (k.anyWidth || decide (k.width ≤ 15)) &&
    (k.anyTreatment || decide (k.treatment ≤ 3)) && decide (k.lengthMin ≤ 15) && decide (k.lengthMax ≤ 15) &&
    decide (k.moisture ≤ 3)

/-- The key a truck record holds (R44). -/
def KeyReq.toKey (k : KeyReq) (gradeLimit : Nat) : Key where
  species := if k.anySpecies then none else some k.species
  gradeLimit := gradeLimit
  thickness := if k.anyThickness then none else some k.thickness
  width := if k.anyWidth then none else some k.width
  lengthMin := k.lengthMin
  lengthMax := k.lengthMax
  treatment := if k.anyTreatment then none else some k.treatment
  moistureLimit := k.moisture

/-- The fields of an order line are in range (R44, Table 10-7); an absent alternate key is not read. -/
def LineReq.fieldsOk (l : LineReq) : Bool :=
  decide (1 ≤ l.want) && decide (l.want ≤ 24) && !l.reserved && decide (l.primaryGrade ≤ 7) && KeyReq.fieldsOk l.primary &&
    (!l.hasAlternate || (decide (l.alternateGrade ≤ 7) && KeyReq.fieldsOk l.alternate))

/-- No key of the line has a length min above its length max (R44). -/
def LineReq.lengthsOk (l : LineReq) : Bool :=
  decide (l.primary.lengthMin ≤ l.primary.lengthMax) &&
    (!l.hasAlternate || decide (l.alternate.lengthMin ≤ l.alternate.lengthMax))

/-- The order line a truck record holds (R44). -/
def LineReq.toLine (l : LineReq) : Line where
  want := l.want
  primary := KeyReq.toKey l.primary l.primaryGrade
  alternate := if l.hasAlternate then some (KeyReq.toKey l.alternate l.alternateGrade) else none
  filled := 0

/-- The fields of ARRIVE are in range (R76 check 1). -/
def ArriveReq.fieldsOk (r : ArriveReq) : Bool :=
  validTag r.visit && decide (r.cls ≤ 1) && decide (2000 ≤ r.tare) && decide (r.tare ≤ 40000) && decide (5000 ≤ r.gross) &&
    decide (r.gross ≤ 60000) && decide (1 ≤ r.maxPacks) && decide (r.maxPacks ≤ 24) && decide (r.partialOk ≤ 1) &&
    decide (1 ≤ r.lines.length) && decide (r.lines.length ≤ 6) && decide (r.count = r.lines.length) &&
    r.lines.all LineReq.fieldsOk

/-- The order of ARRIVE is sound (R76 check 2). -/
def ArriveReq.orderOk (r : ArriveReq) : Bool :=
  r.lines.all LineReq.lengthsOk && decide ((r.lines.map (·.want)).sum ≤ r.maxPacks)

/-- A code field of a key accepts a value: it equals the value, or is ANY (Table 3-1). -/
def codeAccepts (field : Option Nat) (v : Nat) : Bool :=
  match field with
  | none => true
  | some c => c == v

/-- A pack's attributes match a key (R45). -/
def Key.accepts (k : Key) (a : Attrs) : Bool :=
  codeAccepts k.species a.species && decide (a.grade ≤ k.gradeLimit) && codeAccepts k.thickness a.thickness &&
    codeAccepts k.width a.width && decide (k.lengthMin ≤ a.length) && decide (a.length ≤ k.lengthMax) &&
    codeAccepts k.treatment a.treatment && decide (a.moisture ≤ k.moistureLimit)

/-- A pack's attributes match the primary or the alternate key of a line (R118). -/
def Line.accepts (l : Line) (a : Attrs) : Bool :=
  l.primary.accepts a ||
    match l.alternate with
    | none => false
    | some k => k.accepts a

/-- A CFG_SET value is inside its kind's range, as the owning rules and Table 11-2 give it. -/
def SettingKind.valueInRange (k : SettingKind) (v : Nat) : Bool :=
  match k with
  | .bayEnabled | .bayCovered => decide (v ≤ 1)
  | .bayZone | .zonePrimary | .deckZone | .laneZone => decide (v ≤ 7)
  | .bayTierLimit => decide (1 ≤ v) && decide (v ≤ 7)
  | .zonePartner => decide (v ≤ 7) || v == settingNone
  | .density => v == 0 || (decide (200 ≤ v) && decide (v ≤ 1200))
  | .uplift => decide (v ≤ 30)
  | .wetDwell => decide (1 ≤ v) && decide (v ≤ 240)
  | .margin => decide (v ≤ 2000)
  | .millHigh => decide (1 ≤ v) && decide (v ≤ 12)
  | .millLow => decide (v ≤ 11)
  | .gateHigh => decide (1 ≤ v) && decide (v ≤ 24)
  | .gateLow => decide (v ≤ 23)
  | .ageLimit => decide (1 ≤ v) && decide (v ≤ 240)
  | .laneCount => decide (1 ≤ v) && decide (v ≤ 8)
  | .maxDigDepth => decide (v ≤ 3)
  | .taskTimeout => decide (30 ≤ v) && decide (v ≤ 1800)
  | .silenceLimit => decide (5 ≤ v) && decide (v ≤ 120)
  | .portRate => decide (v ≤ 4)
  | .route => decide (v ≤ 5) || v == settingNone

/-- The place a PLACE names: kind 2 a stack 0 to 511, kind 3 a lane 0 to 7; none is out of range (R133, section 10.3). -/
def placeOf (kind number : Nat) : Option Place :=
  if kind = 2 then (if number < Config.stackCount then some (.stack number) else none)
  else if kind = 3 then (if number < Config.laneCount then some (.lane number) else none)
  else none

/-- The office mode a mode byte names (R149, R172). -/
def OfficeMode.ofByte : Nat → Option OfficeMode
  | 0 => some .inService
  | 1 => some .stopped
  | 2 => some .offline
  | _ => none

/-- A list names no number twice (R32). -/
def noRepeats : List Nat → Bool
  | [] => true
  | a :: t => !t.contains a && noRepeats t

end Sys2Proof.Machine
end

