-- ==== Sys2Proof/Machine/Bytes.lean ====
section
/-! DEFINITION. The bytes of a frame (sections 10.1 and 10.3): the check, numbers as they travel, the bodies of the requests, and what a
frame puts into the receive buffer. -/
namespace Sys2Proof.Machine

-- The check (R168).

/-- One bit of the CRC-16 register shifted out (R168). -/
def crcShift (c : Crc) : Crc := if c.getLsbD 15 then (c <<< 1) ^^^ 0x1021#16 else c <<< 1

/-- One byte taken into the CRC-16 register, most significant bit first (R168). -/
def crcByte (c : Crc) (b : Byte) : Crc := Nat.repeat crcShift 8 (c ^^^ (b.setWidth 16 <<< 8))

/-- The check of a frame, over its code, length and body (R168). -/
def crc (bytes : List Byte) : Crc := bytes.foldl crcByte 0xFFFF#16

-- Numbers (R172): high byte first.

/-- A number in one byte. -/
def be1 (n : Nat) : List Byte := [BitVec.ofNat 8 n]
/-- A number in two bytes. -/
def be2 (n : Nat) : List Byte := [BitVec.ofNat 8 (n / 256), BitVec.ofNat 8 n]
/-- A number in four bytes. -/
def be4 (n : Nat) : List Byte := be2 (n / 65536) ++ be2 n
/-- Yes or no. -/
def beBool (b : Bool) : List Byte := be1 (if b then 1 else 0)
/-- E in two bytes, two's complement. -/
def beInt (e : Int) : List Byte := be2 (BitVec.ofInt 16 e).toNat
/-- A one-byte number, or its marker for none. -/
def orMark1 (n : Option Nat) : List Byte := be1 (n.getD 0xFF)
/-- A task id, or 0000h for none. -/
def orTask (n : Option Nat) : List Byte := be2 (n.getD 0)
-- An optional field stands behind its presence byte; the bytes of an absent one are not read (R172) and are sent as 0, a DESIGN CHOICE
-- (log 44).

/-- An optional field in one byte behind its presence byte. -/
def opt1 (n : Option Nat) : List Byte := beBool n.isSome ++ be1 (n.getD 0)
/-- An optional field in two bytes behind its presence byte. -/
def opt2 (n : Option Nat) : List Byte := beBool n.isSome ++ be2 (n.getD 0)
/-- An optional field in four bytes behind its presence byte. -/
def opt4 (n : Option Nat) : List Byte := beBool n.isSome ++ be4 (n.getD 0)
/-- A list: a count byte and the entries. -/
def beList {α : Type} (f : α → List Byte) (l : List α) : List Byte := be1 l.length ++ l.flatMap f

-- The bodies of the requests.

/-- An attribute block (Table 10-5), bit 0 of its last byte reserved. -/
def attrBytes (a : Attrs) (reserved : Bool) : List Byte :=
  be1 (a.species * 16 + a.thickness) ++ be1 (a.width * 16 + a.length) ++
    be1 (a.grade * 32 + a.treatment * 8 + a.moisture * 2 + reserved.toNat)

/-- The body of PACK_IN and PACK_DEFINE (R172). -/
def packBody (r : PackReq) : List Byte :=
  be4 r.tag ++ attrBytes r.attrs r.reserved ++ be2 r.pieces ++ be2 r.volume ++ be1 r.hasWeight ++ be2 r.weight

/-- A key as it travels (Table 10-6). -/
def keyBytes (k : KeyReq) : List Byte :=
  be1 (k.anySpecies.toNat * 128 + k.anyThickness.toNat * 64 + k.anyWidth.toNat * 32 + k.anyTreatment.toNat * 16 +
      k.anyGrade.toNat * 8 + k.anyLength.toNat * 4 + k.anyMoisture.toNat * 2 + k.reserved.toNat) ++
    be1 (k.species * 16 + k.thickness) ++ be1 (k.width * 16 + k.lengthMin) ++
    be1 (k.lengthMax * 16 + k.treatment * 4 + k.moisture)

/-- An order line as it travels (Table 10-7). -/
def lineBytes (l : LineReq) : List Byte :=
  be1 l.want ++ be1 (l.primaryGrade * 32 + l.alternateGrade * 4 + l.hasAlternate.toNat * 2 + l.reserved.toNat) ++
    keyBytes l.primary ++ keyBytes l.alternate

/-- The body of ARRIVE (R172). -/
def arriveBody (r : ArriveReq) : List Byte :=
  be4 r.visit ++ be1 r.cls ++ be2 r.tare ++ be2 r.gross ++ be1 r.maxPacks ++ be1 r.partialOk ++ be1 r.count ++
    r.lines.flatMap lineBytes

/-- The body of SURVEY_REPORT (R172). -/
def surveyBody (id count : Nat) (tags : List Nat) : List Byte := be2 id ++ be1 count ++ tags.flatMap be4

/-- The body of CFG_SET (R186). -/
def cfgBody (kind index value : Nat) : List Byte := be1 kind ++ be1 index ++ be2 value

/-- The scope a STOCKTAKE carries (R39, log 28). -/
def scopeBody : Scope → List Byte
  | .zone z => be1 z
  | .all => [Config.scopeAllRequest]

-- The receive buffer (R169).

/-- The body bytes of a frame whose length byte gives `len`: the bytes the command's fields spell, as far as the length goes. A longer
body than the fields take, which the link answers BAD_LENGTH, ends in bytes the row does not carry: free values (log 6). -/
def bodyBytes (code len : Nat) (fields : List Byte) : List Byte :=
  fields.take len ++ (List.range (len - fields.length)).map (fun n => Config.unreadByte code (fields.length + n))

/-- The bytes a good frame puts into the receive buffer: its code, its length, its body and its two check bytes, the A5h not among them
(R168, R169). -/
def frameBytes (code len : Nat) (fields : List Byte) : List Byte :=
  let inner := be1 code ++ be1 len ++ bodyBytes code len fields
  inner ++ be2 (crc inner).toNat

end Sys2Proof.Machine
end

