-- ==== Sys2Proof/Machine/Ops.lean ====
section
/-! DEFINITION. Reading and writing the tables of the state: the operations every meaning shares. -/
namespace Sys2Proof.Machine

/-- The first element with the least key, if the list has one. -/
def leastBy {α : Type} (key : α → Nat) : List α → Option α
  | [] => none
  | a :: t =>
    match leastBy key t with
    | none => some a
    | some b => if key a ≤ key b then some a else some b

/-- An element inserted before the first element of a greater or equal key. -/
def insertBy {α : Type} (key : α → Nat) (a : α) : List α → List α
  | [] => [a]
  | b :: t => if key a ≤ key b then a :: b :: t else b :: insertBy key a t

/-- The list in ascending order of a key; elements of equal key keep their order. -/
def sortBy {α : Type} (key : α → Nat) : List α → List α
  | [] => []
  | a :: t => insertBy key a (sortBy key t)

/-- The list with an element taken out wherever it stands. -/
def takeOut (a : Nat) (l : List Nat) : List Nat := l.filter (fun x => !(x == a))

/-- The place of an element in a list, counted from 0; the length when it is not there. -/
def placeIn (a : Nat) : List Nat → Nat
  | [] => 0
  | b :: t => if a = b then 0 else placeIn a t + 1

-- Packs (chapter 1).

/-- The pack record of an occupied entry. -/
def State.pack? (s : State) (i : Nat) : Option Pack := Tab.get? s.packs i

/-- A pack record written. -/
def State.setPack (s : State) (i : Nat) (p : Pack) : State := { s with packs := Tab.put s.packs i p }

/-- A pack record removed: its entry becomes free (R9). -/
def State.erasePack (s : State) (i : Nat) : State := { s with packs := Tab.erase s.packs i }

/-- The entry that holds a tag (R2). -/
def State.findTag (s : State) (tag : Nat) : Option (Nat × Pack) := s.packs.find? (fun e => e.2.tag == tag)

/-- The free entry with the lowest index (R1). -/
def State.freePack (s : State) : Nat := Tab.firstFree s.packs 0

/-- The number of free Pack Table entries (R1). -/
def State.freePacks (s : State) : Nat := Config.packCount - s.packs.length

/-- A pack's state and place written (R5). -/
def Pack.moveTo (p : Pack) (state : PackState) (loc : Loc) : Pack := { p with state := state, loc := loc }

/-- A pack's state and place written in its record (R5). -/
def State.movePack (s : State) (i : Nat) (state : PackState) (loc : Loc) : State :=
  { s with packs := Tab.modify s.packs i (fun p => p.moveTo state loc) }

-- Stacks (chapter 2).

/-- A stack with no packs that is not suspect. -/
def Stack.bare : Stack := ⟨[], false⟩

/-- A stack's record. -/
def State.stack (s : State) (id : Nat) : Stack := Tab.getD s.stackMap id Stack.bare

/-- A stack's record written. -/
def State.setStack (s : State) (id : Nat) (k : Stack) : State := { s with stackMap := Tab.putD Stack.bare s.stackMap id k }

/-- The height of a stack: the number of entries in its list (R22). -/
def State.height (s : State) (id : Nat) : Nat := (s.stack id).list.length

/-- A pack appended as the new top of a stack (R22). -/
def State.pushStack (s : State) (id : Nat) (pack : Nat) : State :=
  s.setStack id { s.stack id with list := (s.stack id).list ++ [pack] }

/-- A pack's entry removed from a stack's list; the packs above it move down (R22). -/
def State.pullStack (s : State) (id : Nat) (pack : Nat) : State :=
  s.setStack id { s.stack id with list := takeOut pack (s.stack id).list }

-- Tasks and orders (chapter 7).

/-- The task of an id. -/
def State.task? (s : State) (id : Nat) : Option Task := s.tasks.find? (fun t => t.id == id)

/-- A task's record changed in its place (R120). -/
def State.updateTask (s : State) (id : Nat) (f : Task → Task) : State :=
  { s with tasks := s.tasks.map (fun t => if t.id = id then f t else t) }

/-- The unfinished task whose object a pack is (R123). -/
def State.taskOf (s : State) (pack : Nat) : Option Task := s.tasks.find? (fun t => t.pack == some pack)

/-- The pending arrivals of a stack: the unfinished tasks whose destination is resolved to it (R24). -/
def State.pendingArrivals (s : State) (id : Nat) : Nat := s.tasks.countP (fun t => t.dest == .stack id)

/-- The load a stack's limit is held against: height plus pending arrivals (R23). -/
def State.stackLoad (s : State) (id : Nat) : Nat := s.height id + s.pendingArrivals id

/-- The order of a stack or a lane: the unfinished tasks that touch it, oldest first (R126). -/
def State.orderOf (s : State) (p : Place) : List Nat := (s.touches.filter (fun t => t.place == p)).map (·.task)

/-- Some unfinished task touches a place: it stands in the place's order (R68, R103, R126; log 16). -/
def State.touched (s : State) (p : Place) : Bool := s.touches.any (fun t => t.place == p)

/-- A task stands first in a place's order (R127). -/
def State.standsFirst (s : State) (p : Place) (id : Nat) : Bool := (s.orderOf p).head? == some id

/-- A task joins an order at the tail (R126). -/
def State.joinOrder (s : State) (p : Place) (id : Nat) : State := { s with touches := s.touches ++ [⟨p, id⟩] }

/-- A task leaves one order (R126). -/
def State.leaveOrder (s : State) (p : Place) (id : Nat) : State :=
  { s with touches := s.touches.filter (fun t => !(t.place == p && t.task == id)) }

/-- The place a source names, if it is one with an order. -/
def Source.places : Source → List Place
  | .deck => []
  | .stack id => [.stack id]
  | .lane n => [.lane n]

/-- The place a destination names, if it is one with an order. -/
def Dest.places : Dest → List Place
  | .stack id => [.stack id]
  | .lane n => [.lane n]
  | .unresolved | .absent => []

/-- The number of free pool entries (R120). -/
def State.freeEntries (s : State) : Nat := Config.poolSize - s.tasks.length

/-- A creator other than the Plan Engine may take an entry: one is free, and while a plan is in flight 97 are (R100). -/
def State.mayCreate (s : State) : Bool :=
  if s.plan.isSome then decide (Config.creatorFloor ≤ s.freeEntries) else decide (1 ≤ s.freeEntries)

/-- The lifted PUT count (Table 4-1). -/
def State.liftedPuts (s : State) : Nat := s.tasks.countP (fun t => t.kind == .put && t.state == .lifted)

/-- The deck occupancy (R60). -/
def State.occupancy (s : State) : Nat := s.deck.length + s.liftedPuts

-- Trucks (chapter 5).

/-- The truck record of an occupied slot. -/
def State.truck? (s : State) (slot : Nat) : Option Truck := Tab.get? s.trucks slot

/-- A truck record written. -/
def State.setTruck (s : State) (slot : Nat) (t : Truck) : State := { s with trucks := Tab.put s.trucks slot t }

/-- A truck record changed. -/
def State.updateTruck (s : State) (slot : Nat) (f : Truck → Truck) : State := { s with trucks := Tab.modify s.trucks slot f }

/-- The occupied slot that holds a visit number (R77). -/
def State.findVisit (s : State) (visit : Nat) : Option (Nat × Truck) := s.trucks.find? (fun e => e.2.visit == visit)

/-- The packs ORPHANED with a visit number, in ascending order of load sequence (R7, R78). -/
def State.orphansOf (s : State) (visit : Nat) : List Nat :=
  (sortBy (fun e => e.2.loadSeq.getD 0) (s.packs.filter (fun e => e.2.state == .orphaned && e.2.visit == some visit))).map (·.1)

/-- The truck that holds a lane (R84). -/
def State.laneHolder (s : State) (lane : Nat) : Option Nat :=
  (s.trucks.find? (fun e => e.2.lane == some lane)).map (·.1)

/-- Shortfall: the sum over the lines of want less filled (Table 5-1). -/
def Truck.shortfall (t : Truck) : Nat := (t.lines.map (fun l => l.want - l.filled)).sum

/-- A pack's reservation names a truck slot (R74). -/
def Pack.reservedFor (p : Pack) (slot : Nat) : Bool :=
  match p.reservation with
  | none => false
  | some r => r.slot == slot

/-- A truck's pack count (R74). -/
def State.packCount (s : State) (slot : Nat) : Nat := s.packs.countP (fun e => e.2.reservedFor slot)

/-- The number of a truck's outstanding packs: RESERVED or ON_LOADER (R74). -/
def State.outstanding (s : State) (slot : Nat) : Nat :=
  s.packs.countP (fun e => e.2.reservedFor slot && (e.2.state == .reserved || e.2.state == .onLoader))

/-- The number of a truck's loaded packs (R74). -/
def State.loadedPacks (s : State) (slot : Nat) : Nat :=
  s.packs.countP (fun e => e.2.reservedFor slot && e.2.state == .onTruck)

/-- A truck's returns-to-create list (Table 5-1). -/
def State.returnsOf (s : State) (slot : Nat) : List Nat :=
  (s.returns.filter (fun r => r.slot == slot)).map (·.pack)

/-- The plan in flight is for a slot. -/
def State.planInFlight (s : State) (slot : Nat) : Bool :=
  match s.plan with
  | none => false
  | some p => p.slot == slot

/-- A filled count of a truck's lines changed; no line for none. -/
def Truck.onLine (t : Truck) (line : Option Nat) (f : Nat → Nat) : Truck :=
  match line with
  | none => t
  | some n => { t with lines := t.lines.modify (n - 1) (fun l => { l with filled := f l.filled }) }

/-- L falls by a reservation's frozen estimate and its line's filled count by one (R10). -/
def Truck.lower (t : Truck) (r : Reservation) : Truck :=
  { t.onLine r.line (· - 1) with est := t.est - r.frozen }

/-- L rises by a reservation's frozen estimate and its line's filled count by one (R106, R137). -/
def Truck.raise (t : Truck) (r : Reservation) : Truck :=
  { t.onLine r.line (· + 1) with est := t.est + r.frozen }

-- Loaders (chapters 7 and 8).

/-- A loader's record. -/
def State.loader (s : State) (n : Nat) : Loader := Tab.getD s.loaders n Loader.initial

/-- A loader's record written. -/
def State.setLoader (s : State) (n : Nat) (r : Loader) : State := { s with loaders := Tab.putD Loader.initial s.loaders n r }

/-- The effective state that an office mode and a link condition give (R144). -/
def effectiveOf (mode : OfficeMode) (linked : Bool) : EffState :=
  match mode, linked with
  | .offline, _ => .offline
  | _, false => .lost
  | .stopped, true => .stopped
  | .inService, true => .active

/-- A loader's effective state (R144). -/
def State.effective (s : State) (n : Nat) : EffState := effectiveOf (s.loader n).mode (s.loader n).linked

/-- Up means ACTIVE or STOPPED (chapter 8). -/
def EffState.up : EffState → Bool
  | .active | .stopped => true
  | .lost | .offline => false

-- Ports (chapter 10).

/-- A port's number, as kind 21 of Table 11-2 numbers the ports. -/
def portNum : Port → Nat
  | .g => 0
  | .t => 1
  | .o => 2
  | .l n => 3 + n.val

/-- A port's record. -/
def State.port (s : State) (p : Port) : PortRec := Tab.getD s.ports (portNum p) PortRec.initial

/-- A port's record written. -/
def State.setPort (s : State) (p : Port) (r : PortRec) : State :=
  { s with ports := Tab.putD PortRec.initial s.ports (portNum p) r }

-- Reservations and lists a pack is in.

/-- A plan without a pack's entry in its pick list; a stack keeps its place in the order while another pick remains in it (R110). -/
def Plan.drop (p : Plan) (pack : Nat) : Plan :=
  { p with
    picks := p.picks.filter (fun k => !(k.pack == pack))
    stackOrder := p.stackOrder.filter (fun st => p.picks.any (fun k => k.stack == st && !(k.pack == pack))) }

/-- A pack's entry leaves the pick list of the plan in flight (R110). -/
def State.dropPick (s : State) (pack : Nat) : State :=
  match s.plan with
  | none => s
  | some p => { s with plan := some (p.drop pack) }

/-- The place of a pack in the list that holds it: deck position, tier or load position (R5). -/
def State.packPosition (s : State) (i : Nat) (p : Pack) : Nat :=
  match p.loc with
  | .deck => placeIn i s.deck
  | .stack id => placeIn i (s.stack id).list
  | .truck slot =>
    match s.truck? slot with
    | none => 0
    | some t => placeIn i t.load
  | .loader _ | .none => 0

/-- The state of the Plan Engine (R98). -/
def State.engine (s : State) : EngineState :=
  if s.cond = .starting then .waitYard
  else if s.plan.isSome then .planning
  else if s.planQueue.isEmpty then .idle
  else .waitPool

end Sys2Proof.Machine
end

