-- ==== Sys2Proof/Machine/Weight.lean ====
section
/-! DEFINITION. Weight estimation (chapter 3): base weight, uplift, the estimate and the estimation error. -/
namespace Sys2Proof.Machine

/-- The density entry of a pack's species and moisture class (R47). -/
def State.densityOf (s : State) (p : Pack) : Nat := s.density p.attrs.species p.attrs.moisture

/-- A pack is unrated: no measured weight, and a density entry of 0 (R14). -/
def State.unrated (s : State) (p : Pack) : Bool := p.measured.isNone && s.densityOf p == 0

/-- The base weight W0, absent for an unrated pack (R50). -/
def State.baseWeight (s : State) (p : Pack) : Option Nat :=
  match p.measured with
  | some w => some w
  | none => if s.densityOf p = 0 then none else some ((p.volume * s.densityOf p + 999) / 1000)

/-- A pack stands uncovered (R51). -/
def State.uncovered (s : State) (p : Pack) : Bool :=
  match p.state, p.loc with
  | .stored, .stack id => !s.bayCovered (bayOf id)
  | .reserved, .stack id => !s.bayCovered (bayOf id)
  | _, _ => true

/-- The reference minute of the dwell: stored_at, or tallied_at where stored_at is absent (R51). -/
def Pack.referenceMinute (p : Pack) : Minute := p.storedAt.getD p.talliedAt

/-- The wet dwell is met (R51); a minute count below the reference minute is a dwell of 0. -/
def State.dwellMet (s : State) (p : Pack) : Bool :=
  decide (s.wetDwell * 60 ≤ s.clock.minute.toNat - p.referenceMinute.toNat)

/-- The uplift percentage U of a pack (R51). -/
def State.upliftOf (s : State) (p : Pack) : Nat := if s.uncovered p && s.dwellMet p then s.uplift s.wet else 0

/-- A base weight raised by an uplift, rounded up and held to 24,960 kg (R51, R52). -/
def uplifted (w0 u : Nat) : Nat := min Config.estimateTop ((w0 * (100 + u) + 99) / 100)

/-- The current estimate of a pack, absent for an unrated pack (R20, R50). -/
def State.estimate? (s : State) (p : Pack) : Option Nat := (s.baseWeight p).map (fun w => uplifted w (s.upliftOf p))

/-- The estimate a reservation freezes: 0 kg for an unrated pack (R14, R50). -/
def State.estimate (s : State) (p : Pack) : Nat := (s.estimate? p).getD 0

/-- The estimation error E, held within a signed 16-bit number (R56). -/
def estimationError (gm tare est : Nat) : Int := max (-32768) (min 32767 ((gm : Int) - tare - est))

end Sys2Proof.Machine
end

