-- ==== Sys2Proof/Machine/Pool.lean ====
section
/-! DEFINITION. The Task Pool and the Survey Backlog (chapters 2 and 7): creating a task, assigning it, its leaving the pool. -/
namespace Sys2Proof.Machine

/-- The serving loader of a zone (R125). -/
def State.servingLoader (s : State) (zone : Nat) : Nat :=
  if (s.effective (s.zonePrimary zone)).up then s.zonePrimary zone
  else
    match s.zonePartner zone with
    | none => s.zonePrimary zone
    | some n => if (s.effective n).up then n else s.zonePrimary zone

/-- The next id: the counter raised by one, from 65,535 back to 1, until no task of the pool holds it (R120). The fuel is one more
than the number of ids in use. -/
def nextId (used : List Nat) : Nat → Nat → Nat
  | 0, last => last
  | fuel + 1, last =>
    let n := if Config.lastTaskId ≤ last then 1 else last + 1
    if used.contains n then nextId used fuel n else n

/-- The id the next new task is given (R120). -/
def State.newId (s : State) : Nat := nextId (s.tasks.map (·.id)) (s.tasks.length + 1) s.lastId

/-- A task created at the tail of the creation order, assigned to its zone's serving loader, joined to the orders of its source and its
destination (R120, R125, R126). A task with a destination, and a SURVEY, is QUEUED; one without is in WAIT_SPACE (R62, R70). -/
def State.addTask (s : State) (kind : TaskKind) (pack : Option Nat) (source : Source) (dest : Dest) (truck : Option Nat)
    (zone : Nat) (reason : Option Reason) : State :=
  let id := s.newId
  { s with
    lastId := id
    tasks := s.tasks ++
      [{ id := id, kind := kind, pack := pack, source := source, dest := dest, truck := truck, converted := false, zone := zone,
         loader := s.servingLoader zone, state := if dest = .unresolved then .waitSpace else .queued, timer := none,
         reason := reason, kept := none, liftTarget := none }]
    touches := s.touches ++ (source.places ++ dest.places).map (fun p => ⟨p, id⟩) }

/-- An entry joins the Survey Backlog, merged with one the stack already has (R29); the feeder is to run (R30). -/
def State.joinBacklog (s : State) (stack : Nat) (reason : Reason) : State :=
  match Tab.get? s.backlog stack, reason with
  | some .stocktake, .suspect => State.markTake (State.markFeed { s with backlog := Tab.put s.backlog stack .suspect })
  | some _, _ => s.markFeed
  | none, r => State.markFeed { s with backlog := Tab.put s.backlog stack r }

/-- An entry leaves the Survey Backlog (R29). -/
def State.leaveBacklog (s : State) (stack : Nat) : State := State.markTake { s with backlog := Tab.erase s.backlog stack }

/-- A stack becomes suspect (R25). -/
def State.makeSuspect (s : State) (id : Nat) : State :=
  ((s.setStack id { s.stack id with suspect := true }).joinBacklog id .suspect).raise .stackSuspect

/-- A loader ceases to hold its current task, which becomes its previous task with an outcome (Table 7-2, R121). -/
def State.releaseLoader (s : State) (n : Nat) (id : Nat) (outcome : PrevOutcome) : State :=
  s.setLoader n { s.loader n with current := none, previous := some ⟨id, outcome⟩ }

/-- The task is held by its loader: ISSUED or LIFTED (R121). -/
def Task.held (t : Task) : Bool := t.state == .issued || t.state == .lifted

/-- How a task leaves the pool (R121). -/
inductive Leaving where
  /-- it is done: placed, or its survey report accepted -/
  | done (req : TaskReq) (answer : Answer)
  /-- it fails at a mismatch or a NOT_FOUND -/
  | failed (req : TaskReq) (answer : Answer)
  /-- it is removed by another cause -/
  | removed
deriving DecidableEq, Repr

/-- What the leaving makes of the loader's previous task (R121). -/
def Leaving.outcome : Leaving → PrevOutcome
  | .done r a => .ended r a
  | .failed r a => .ended r a
  | .removed => .revoked

/-- The task left having done its work (R121). -/
def Leaving.isDone : Leaving → Bool
  | .done _ _ => true
  | _ => false

/-- The task was bound for a stack and did not reach it: its pending arrival goes (R121). -/
def Task.losesArrival (t : Task) (how : Leaving) : Bool :=
  match t.dest with
  | .stack _ => !how.isDone
  | _ => false

/-- A SURVEY that leaves without an accepted report returns its stack's entry to the Backlog (R31). -/
def State.returnSurvey (s : State) (t : Task) (how : Leaving) : State :=
  match t.kind, t.source, t.reason with
  | .survey, .stack id, some r => if how.isDone then s else s.joinBacklog id r
  | _, _, _ => s

/-- A task leaves the pool (R121): its timer, its orders and its entry go with it, its loader lets go of it, a lost pending arrival is
a space event, a survey without a report returns to the Backlog; the waiting creators and the rules that watch the pool follow
when the event's own changes are complete (log 14). -/
def State.leavePool (s : State) (t : Task) (how : Leaving) : State :=
  let s := { s with tasks := s.tasks.filter (fun u => !(u.id == t.id)), touches := s.touches.filter (fun u => !(u.task == t.id)) }
  let s := if t.held then s.releaseLoader t.loader t.id how.outcome else s
  let s := if t.losesArrival how then s.markSpace else s
  let s := s.returnSurvey t how
  s.markFreed.markWatch.markTake

/-- The unfinished task of a pack, if there is one, is removed (R34). -/
def State.removeTaskOf (s : State) (pack : Nat) : State :=
  match s.taskOf pack with
  | none => s
  | some t => s.leavePool t .removed

/-- An ISSUED task is revoked: it returns to QUEUED in its place, its timer stops and its loader lets go of it (R139, R145). -/
def State.revoke (s : State) (t : Task) : State :=
  (s.updateTask t.id (fun u => { u with state := .queued, timer := none })).releaseLoader t.loader t.id .revoked

/-- The tasks that a test selects, in QUEUED or WAIT_SPACE, are assigned anew where the assignment rule gives an up loader
(R145, R147, R148). -/
def State.reassign (s : State) (test : Task → Bool) : State :=
  { s with tasks := s.tasks.map (fun t =>
      if (t.state == .queued || t.state == .waitSpace) && test t && (s.effective (s.servingLoader t.zone)).up then
        { t with loader := s.servingLoader t.zone }
      else t) }

-- The survey feeder (R30).

/-- A stack has a SURVEY task in the pool. -/
def State.surveyOf (s : State) (stack : Nat) : Option Task :=
  s.tasks.find? (fun t => t.kind == .survey && t.source == .stack stack)

/-- The number of SURVEY tasks in the pool. -/
def State.surveys (s : State) : Nat := s.tasks.countP (fun t => t.kind == .survey)

/-- The Backlog entry the feeder takes next: a SUSPECT one before a STOCKTAKE one, the lowest stack id first, stacks with a SURVEY in
the pool passed over (R30). -/
def State.nextEntry (s : State) : Option (Nat × Reason) :=
  let open_ := s.backlog.filter (fun e => (s.surveyOf e.1).isNone)
  match open_.find? (fun e => e.2 == .suspect) with
  | some e => some e
  | none => open_.head?

/-- The feeder creates one SURVEY task if its conditions hold (R30). -/
def State.feedOne (s : State) : State :=
  if s.cond = .ready ∧ s.surveys < Config.surveyLimit ∧ Config.creatorFloor ≤ s.freeEntries then
    match s.nextEntry with
    | none => s
    | some (id, r) => (s.leaveBacklog id).addTask .survey none (.stack id) .absent none (s.bayZone (bayOf id)) (some r)
  else s

/-- The feeder creates tasks for as long as its conditions hold: at most 16 (R30). -/
def State.feed (s : State) : State := Nat.repeat State.feedOne Config.surveyLimit s

end Sys2Proof.Machine
end

