-- ==== Sys2Proof/Machine/Selector.lean ====
section
/-! DEFINITION. The Put-Away Selector (section 4.4), the retry of unresolved tasks (R72) and the re-resolution of an overfull stack (R38). -/
namespace Sys2Proof.Machine

/-- A request to the Put-Away Selector (R67): the task's kind, its pack and its source, and whether it is made for a LIFTED task. -/
structure SeekReq where
  kind : TaskKind
  pack : Nat
  source : Source
  lifted : Bool
deriving DecidableEq, Repr

/-- Some pack of a stack's list is RESERVED (R68). -/
def State.holdsReserved (s : State) (id : Nat) : Bool :=
  (s.stack id).list.any (fun p =>
    match s.pack? p with
    | none => false
    | some q => q.state == .reserved)

/-- The conditions of R68 other than the zone condition. -/
def State.roomAt (s : State) (lifted : Bool) (id : Nat) : Bool :=
  s.bayEnabled (bayOf id) && !(s.stack id).suspect && decide (s.stackLoad id < s.tierLimit (bayOf id)) && !s.holdsReserved id &&
    !(lifted && s.touched (.stack id))

/-- The task whose destination was most recently resolved to a stack (R69). -/
def State.newestArrival (s : State) (id : Nat) : Option Task :=
  (s.orderOf (.stack id)).reverse.findSome? (fun n =>
    match s.task? n with
    | none => none
    | some t => if t.dest = .stack id then some t else none)

/-- The effective top of a stack: the pack of its newest pending arrival, else the top pack of its list (R69). -/
def State.effectiveTop (s : State) (id : Nat) : Option Nat :=
  match s.newestArrival id with
  | some t => t.pack
  | none => (s.stack id).list.getLast?

/-- Two packs are alike in the six attributes the like test compares (R69). -/
def Pack.like (p q : Pack) : Bool :=
  p.attrs.species == q.attrs.species && p.attrs.grade == q.attrs.grade && p.attrs.thickness == q.attrs.thickness &&
    p.attrs.width == q.attrs.width && p.attrs.length == q.attrs.length && p.attrs.treatment == q.attrs.treatment

/-- A stack is a like stack for a pack (R69). -/
def State.likeStack (s : State) (pack id : Nat) : Bool :=
  match (s.effectiveTop id).bind s.pack?, s.pack? pack with
  | some q, some p => q.like p
  | _, _ => false

/-- The stack preferred among eligible ones: a like stack, else an empty one, else any; the lowest load, then the lowest id (R69). -/
def State.prefer (s : State) (pack : Nat) (eligible : List Nat) : Option Nat :=
  match leastBy s.stackLoad (eligible.filter (s.likeStack pack)) with
  | some id => some id
  | none =>
    match leastBy s.stackLoad (eligible.filter (fun id => s.stackLoad id == 0)) with
    | some id => some id
    | none => leastBy s.stackLoad eligible

/-- The zone of a stack. -/
def State.stackZone (s : State) (id : Nat) : Nat := s.bayZone (bayOf id)

/-- The stacks with room, in ascending order of id (R68). -/
def State.roomy (s : State) (lifted : Bool) : List Nat := (List.range Config.stackCount).filter (s.roomAt lifted)

/-- The Put-Away Selector's answer: one stack, or none (R67 to R69). A DIG stays in the zone of its source stack and leaves that stack;
a RETURN takes the lane's zone first, then any; a PUT takes any. -/
@[irreducible] def State.select (s : State) (r : SeekReq) : Option Nat :=
  match r.kind, r.source with
  | .dig, .stack src =>
    s.prefer r.pack ((s.roomy r.lifted).filter (fun id => s.stackZone id == s.stackZone src && !(id == src)))
  | .ret, .lane n =>
    match s.prefer r.pack ((s.roomy r.lifted).filter (fun id => s.stackZone id == s.laneZone n)) with
    | some id => some id
    | none => s.prefer r.pack (s.roomy r.lifted)
  | _, _ => s.prefer r.pack (s.roomy r.lifted)

/-- The destination an answer of the Selector gives. -/
def destOf : Option Nat → Dest
  | none => .unresolved
  | some id => .stack id

/-- NO_SPACE is set when the Selector answers none (R70). -/
def State.noteSpace (s : State) (answer : Option Nat) : State := if answer.isNone then s.raise .noSpace else s

/-- A task created with a destination of the Selector's, or in WAIT_SPACE with NO_SPACE set (R62, R70, R92). -/
def State.addSeeking (s : State) (kind : TaskKind) (pack : Nat) (source : Source) (truck : Option Nat) (zone : Nat) : State :=
  let answer := s.select ⟨kind, pack, source, false⟩
  (s.addTask kind (some pack) source (destOf answer) truck zone none).noteSpace answer

/-- The request an unresolved task makes (R72). -/
def Task.seekReq (t : Task) : SeekReq := ⟨t.kind, t.pack.getD 0, t.source, t.state == .lifted⟩

/-- A task's destination resolved to a stack: it joins the stack's order; WAIT_SPACE becomes QUEUED (R67, R72, R126). -/
def State.resolveTo (s : State) (id stack : Nat) : State :=
  (s.updateTask id (fun t =>
    { t with dest := .stack stack, state := if t.state = .waitSpace then .queued else t.state })).joinOrder (.stack stack) id

/-- An unresolved task: in WAIT_SPACE, or LIFTED without a destination (R72). -/
def Task.unresolved (t : Task) : Bool := t.state == .waitSpace || (t.state == .lifted && t.dest == .unresolved)

/-- One task retried after a space event (R72). -/
def State.retryTask (s : State) (id : Nat) : State :=
  match s.task? id with
  | none => s
  | some t =>
    match s.select t.seekReq with
    | none => s
    | some st => s.resolveTo id st

/-- Every unresolved task retried, in creation order (R72). -/
def State.retry (s : State) : State :=
  ((s.tasks.filter Task.unresolved).map (·.id)).foldl State.retryTask s

/-- One task whose destination a re-resolution cleared asks anew; without an answer it goes to WAIT_SPACE and NO_SPACE is set
(R38, R70). -/
def State.resolveAnew (s : State) (id : Nat) : State :=
  match s.task? id with
  | none => s
  | some t =>
    match s.select t.seekReq with
    | none => (s.updateTask id (fun t => { t with state := if t.state = .queued then .waitSpace else t.state })).raise .noSpace
    | some st => s.resolveTo id st

/-- The tasks whose destination is resolved to a stack, in creation order. -/
def State.boundFor (s : State) (stack : Nat) : List Nat := (s.tasks.filter (fun t => t.dest == .stack stack)).map (·.id)

/-- The destinations resolved to a stack are cleared; each task leaves the stack's order (R38, R126). -/
def State.clearBound (s : State) (stack : Nat) : State :=
  let s' := { s with
    tasks := s.tasks.map (fun t => if t.dest = .stack stack then { t with dest := .unresolved } else t)
    touches := s.touches.filter (fun u => !(u.place == .stack stack && (s.boundFor stack).contains u.task)) }
  if (s.boundFor stack).isEmpty then s' else s'.markSpace

/-- The pending arrivals of a stack re-resolved (R38). -/
def State.reResolve (s : State) (stack : Nat) : State := (s.boundFor stack).foldl State.resolveAnew (s.clearBound stack)

/-- A stack whose height plus pending arrivals exceeds its tier limit has its pending arrivals re-resolved (R38, R137). -/
def State.relieve (s : State) (stack : Nat) : State :=
  if s.tierLimit (bayOf stack) < s.stackLoad stack then s.reResolve stack else s

end Sys2Proof.Machine
end

