-- ==== Sys2Proof/Machine/Trucks.lean ====
section
/-! DEFINITION. Trucks (chapter 5) and what binds them to packs: replan requests, evaluation, the end of a reservation, the Waiting
Queue, admission, returns to create, the freeing of a slot. -/
namespace Sys2Proof.Machine

/-- A hold line judged: asserted at or above the high mark, released at or below the low mark, otherwise as it was (R65, R82). Where the
working marks stand crossed (a reset that kept one of two writes of the list, R187) a count may be both; the rules give both then, and
the model asserts the line: a DESIGN CHOICE (log 45). -/
def judgeHold (count high low : Nat) (line : Bool) : Bool :=
  if high ≤ count then true else if count ≤ low then false else line

/-- GATE_HOLD judged on the Waiting Queue count (R82). -/
def State.judgeGate (s : State) : State :=
  { s with pins := { s.pins with gateHold := judgeHold s.waiting.length s.gateHigh s.gateLow s.pins.gateHold } }

/-- MILL_HOLD judged on the deck count (R65). -/
def State.judgeMill (s : State) : State :=
  { s with pins := { s.pins with millHold := judgeHold s.deck.length s.millHigh s.millLow s.pins.millHold } }

-- Replan requests (section 6.5).

/-- The states in which a truck may hold a place in the Plan Queue (R99, R116). -/
def TruckState.plannable : TruckState → Bool
  | .admitted | .planned | .loading | .stockWait => true
  | _ => false

/-- A slot appended at the tail of the Plan Queue, unless it stands there or its plan is in flight (R97). -/
def State.enqueuePlan (s : State) (slot : Nat) : State :=
  if s.planQueue.contains slot || s.planInFlight slot then s
  else State.markEngine { s with planQueue := s.planQueue ++ [slot] }

/-- The plan in flight is to be followed by a replan request (R110, R116). -/
def State.noteReplan (s : State) : State :=
  match s.plan with
  | none => s
  | some p => { s with plan := some { p with replanAfter := true } }

/-- A replan request for a truck, handled by its standing (R116). An ADMITTED truck that is neither queued nor in flight, which no run
reaches, is left as it is. -/
def State.requestReplan (s : State) (slot : Nat) : State :=
  match s.truck? slot with
  | none => s
  | some t =>
    if t.state.plannable then
      if s.planInFlight slot then s.noteReplan
      else if t.state = .admitted then s
      else s.enqueuePlan slot
    else s

/-- New stock may serve a truck (R118). -/
def Truck.wants (t : Truck) (a : Attrs) : Bool :=
  t.state.plannable && decide (0 < t.shortfall) && !t.partialOk &&
    t.lines.any (fun l => decide (l.filled < l.want) && l.accepts a)

/-- A pack passed on as new stock: replan requests in ascending order of arrival sequence, ties in ascending slot order (R118). -/
def State.newStock (s : State) (pack : Nat) : State :=
  match s.pack? pack with
  | none => s
  | some p =>
    ((sortBy (fun e => e.2.arrivalSeq) (s.trucks.filter (fun e => e.2.wants p.attrs))).map (·.1)).foldl State.requestReplan s

/-- A pack passed on as new stock if it is STORED with hold no (R11). -/
def State.passOn (s : State) (pack : Nat) : State :=
  match s.pack? pack with
  | none => s
  | some p => if p.state = .stored ∧ p.hold = false then s.newStock pack else s

-- Evaluation (section 5.6).

/-- The state evaluation gives (R87). -/
def evaluated (outstanding : Nat) (load : List Nat) (shortfall : Nat) (partialOk : Bool) : TruckState :=
  if 0 < outstanding then (if load.isEmpty then .planned else .loading)
  else if load.isEmpty then .stockWait
  else if shortfall = 0 ∨ partialOk = true then .loaded
  else .stockWait

/-- A truck's state written; an entry into LOADED from another state sets TRUCK_LOADED and takes the slot out of the Plan Queue
(R88). -/
def State.enterState (s : State) (slot : Nat) (t : Truck) (n : TruckState) : State :=
  let s' := s.setTruck slot { t with state := n }
  if n = .loaded ∧ t.state ≠ .loaded then State.raise { s' with planQueue := takeOut slot s'.planQueue } .truckLoaded else s'

/-- The state evaluation gives a truck as it stands (R87). -/
def State.evaluation (s : State) (slot : Nat) (t : Truck) : TruckState :=
  evaluated (s.outstanding slot) t.load t.shortfall t.partialOk

/-- The states evaluation applies to at events other than a plan's completion (R87). -/
def TruckState.evaluable : TruckState → Bool
  | .planned | .loading | .stockWait | .loaded => true
  | _ => false

/-- Evaluation at a PLACE, a loss or a PARTIAL (R87); an entry into STOCK_WAIT makes a replan request (R117). -/
def State.evaluate (s : State) (slot : Nat) : State :=
  match s.truck? slot with
  | none => s
  | some t =>
    if t.state.evaluable then
      let n := s.evaluation slot t
      let s' := s.enterState slot t n
      if n = .stockWait ∧ t.state ≠ .stockWait then s'.requestReplan slot else s'
    else s

/-- Evaluation at the completion of the truck's own plan (R87, R115). -/
def State.evaluateAtCompletion (s : State) (slot : Nat) : State :=
  match s.truck? slot with
  | none => s
  | some t => if t.state.plannable then s.enterState slot t (s.evaluation slot t) else s

-- The end of a reservation (R10).

/-- The steps both ends of a reservation share (R10): the reservation is cleared, a RESERVED pack becomes STORED in place, L and the
line's filled count fall, the pack leaves the pick list; the end of a reservation in a stack is a space event (R71). -/
def State.endReservation (s : State) (pack : Nat) : State :=
  match s.pack? pack with
  | none => s
  | some p =>
    match p.reservation with
    | none => s
    | some r =>
      let s' := ((s.setPack pack { p with reservation := none, state := if p.state = .reserved then .stored else p.state }).updateTruck
        r.slot (fun t => t.lower r)).dropPick pack
      if p.state = .reserved then s'.markSpace else s'

/-- A release: an end that follows from the truck's own course (R10). -/
def State.release (s : State) (pack : Nat) : State := s.endReservation pack

/-- A loss: the truck receives a replan request and is evaluated, unless its plan is in flight (R10). -/
def State.lose (s : State) (pack : Nat) : State :=
  match (s.pack? pack).bind (·.reservation) with
  | none => s
  | some r =>
    let s' := (s.endReservation pack).requestReplan r.slot
    if s'.planInFlight r.slot then s' else s'.evaluate r.slot

/-- A pack becomes LOST: location none, hold kept (R132, R150). -/
def State.makeLost (s : State) (pack : Nat) : State := s.movePack pack .lost .none

-- The Waiting Queue and admission (sections 5.3 to 5.5).

/-- A truck stands ahead of another in the Waiting Queue, or level with it: EXPRESS before NORMAL, then by arrival sequence (R79). -/
def Truck.notBehind (a b : Truck) : Bool :=
  if a.express = b.express then decide (a.arrivalSeq ≤ b.arrivalSeq) else a.express

/-- A slot inserted after every truck that is not behind it (R79). -/
def insertWaiting (trucks : List (Nat × Truck)) (slot : Nat) (t : Truck) : List Nat → List Nat
  | [] => [slot]
  | b :: rest =>
    match Tab.get? trucks b with
    | none => b :: insertWaiting trucks slot t rest
    | some u => if u.notBehind t then b :: insertWaiting trucks slot t rest else slot :: b :: rest

/-- A WAITING truck joins the Waiting Queue at its place (R79). -/
def State.joinWaiting (s : State) (slot : Nat) (t : Truck) : State :=
  State.markGate { s with waiting := insertWaiting s.trucks slot t s.waiting }

/-- A slot leaves the Waiting Queue wherever it stands (R79). -/
def State.leaveWaiting (s : State) (slot : Nat) : State :=
  if s.waiting.contains slot then State.markGate { s with waiting := takeOut slot s.waiting } else s

/-- The lowest-numbered free lane in use (R85). -/
def State.freeLane (s : State) : Option Nat := (List.range s.lanesInUse).find? (fun l => (s.laneHolder l).isNone)

/-- The head of the Waiting Queue is admitted if the yard is READY and a lane in use is free (R85). -/
def State.admitOne (s : State) : State :=
  match s.waiting, s.freeLane with
  | slot :: _, some lane =>
    if s.cond = .ready then
      (((s.leaveWaiting slot).updateTruck slot (fun t => { t with lane := some lane, state := .admitted })).enqueuePlan slot).raise
        .truckCalled
    else s
  | _, _ => s

/-- Admission judged until no lane in use is free or the queue is empty: at most eight lanes (R85). -/
def State.admission (s : State) : State := Nat.repeat State.admitOne Config.laneCount s

/-- A truck becomes EXPRESS by ageing and moves in the queue; its waiting time has reached the age limit (R80). -/
def State.promote (s : State) (slot : Nat) : State :=
  match s.truck? slot with
  | none => s
  | some t =>
    if t.state = .waiting ∧ t.express = false then
      let t' := { t with express := true, promoted := true, waiting := max t.waiting (s.ageLimit * 60) }
      let s' := s.setTruck slot t'
      State.markAdmit { s' with waiting := insertWaiting s'.trucks slot t' (takeOut slot s'.waiting) }
    else s

-- Returns to create (R92, R156).

/-- Packs put on a truck's returns-to-create list, behind the entries it holds (R92, R156). -/
def State.listReturns (s : State) (slot : Nat) (packs : List Nat) : State :=
  if packs.isEmpty then s else State.markServe { s with returns := s.returns ++ packs.map (fun p => ⟨slot, p⟩) }

/-- An unfinished task of a kind names a slot. -/
def State.hasTask (s : State) (kind : TaskKind) (slot : Nat) : Bool :=
  s.tasks.any (fun t => t.kind == kind && t.truck == some slot)

/-- A pack is the object of an unfinished RETURN. -/
def State.returning (s : State) (pack : Nat) : Bool := s.tasks.any (fun t => t.kind == .ret && t.pack == some pack)

/-- The returns of a CANCELLING truck are listed, top first, once no FETCH of it is unfinished (R92, R157). Which of two trucks comes
first at one event is `State.listAllCancelled`'s choice (log 47). -/
def State.listCancelled (s : State) (slot : Nat) : State :=
  match s.truck? slot with
  | none => s
  | some t =>
    if t.state = .cancelling ∧ s.hasTask .fetch slot = false then
      s.listReturns slot (t.load.reverse.filter (fun p => !((s.returnsOf slot).contains p) && !(s.returning p)))
    else s

/-- One listed pack is given a RETURN task if the pool has an entry for it (R92, R100). -/
def State.serveReturn (s : State) (r : ReturnEntry) : State :=
  match (s.truck? r.slot).bind (·.lane) with
  | none => s
  | some lane =>
    if s.mayCreate then
      State.addSeeking { s with returns := s.returns.filter (fun e => !(e == r)) } .ret r.pack (.lane lane) (some r.slot)
        (s.laneZone lane)
    else s

/-- The trucks' returns to create are served in the order they joined (R122). -/
def State.serveReturns (s : State) : State := s.returns.foldl State.serveReturn s

/-- A deck pack without a PUT task is given one if the pool has an entry for it (R62, R100). -/
def State.servePut (s : State) (pack : Nat) : State :=
  if (s.taskOf pack).isNone && s.mayCreate then s.addSeeking .put pack .deck none s.deckZone else s

/-- The deck packs without a PUT task are served from the head towards the tail (R62). -/
def State.servePuts (s : State) : State := s.deck.foldl State.servePut s

-- Plans that end without tasks, and the freeing of a slot (R93, R109).

/-- The plan in flight ends without tasks: its picks are released, no flag is set, the engine is judged (R109). -/
def State.abortPlan (s : State) : State :=
  match s.plan with
  | none => s
  | some p =>
    let s' := (p.picks.map (·.pack)).foldl State.release s
    State.markWatch (State.markFreed (State.markEngine { s' with plan := none }))

/-- A truck's slot is freed (R93). -/
def State.freeSlot (s : State) (slot : Nat) : State :=
  let held := ((s.truck? slot).bind (·.lane)).isSome
  let s := s.leaveWaiting slot
  let s := { s with planQueue := takeOut slot s.planQueue, returns := s.returns.filter (fun r => !(r.slot == slot)) }
  let s := if s.planInFlight slot then s.abortPlan else s
  let s := { s with
    tasks := s.tasks.map (fun t => if t.truck = some slot then { t with truck := none } else t)
    trucks := Tab.erase s.trucks slot }
  if held then s.markAdmit else s

/-- A cancellation completes when nothing of the truck is left to unwind (R93). -/
def State.completeCancel (s : State) (slot : Nat) : State :=
  match s.truck? slot with
  | none => s
  | some t =>
    if t.state = .cancelling ∧ s.planInFlight slot = false ∧ s.hasTask .fetch slot = false ∧ s.hasTask .ret slot = false ∧
        (s.returnsOf slot).isEmpty ∧ t.load.isEmpty then s.freeSlot slot
    else s

/-- An unloading ends when its list is empty and no RETURN names its slot: the truck becomes LOADED (R157). -/
def State.endUnloading (s : State) (slot : Nat) : State :=
  match s.truck? slot with
  | none => s
  | some t =>
    if t.state = .unloading ∧ (s.returnsOf slot).isEmpty ∧ s.hasTask .ret slot = false then s.enterState slot t .loaded else s

/-- The truck slots in ascending order. -/
def State.slots (s : State) : List Nat := s.trucks.map (·.1)

-- The Shipment Log (section 9.4).

/-- A record appended to the Shipment Log; a full log loses its oldest record and sets LOG_OVERWRITE (R164). -/
def State.logShipment (s : State) (r : Shipment) : State :=
  if s.shipLog.length < Config.logSize then { s with shipLog := s.shipLog ++ [r] }
  else State.raise { s with shipLog := s.shipLog.tail ++ [r] } .logOverwrite

/-- The entry of a pack in a shipment record (R163). -/
def State.shipEntry (s : State) (pack : Nat) : List ShipEntry :=
  match s.pack? pack with
  | none => []
  | some p => [⟨p.tag, p.reservation.bind (·.line), p.reservation.bind (·.kind)⟩]

/-- The shipment record of a truck as it stands (R163). -/
def State.shipmentOf (s : State) (t : Truck) (underrun : Bool) (gm : Option Nat) (e : Option Int) : Shipment where
  visit := t.visit
  minute := s.clock.minute
  gm := gm
  tare := t.tare
  est := t.est
  e := e
  flags := { t.flags with underrun := underrun }
  entries := t.load.flatMap s.shipEntry

end Sys2Proof.Machine
end

