-- ==== Sys2Proof/Machine/Plan.lean ====
section
/-! DEFINITION. The Plan Engine (chapter 6): judging the engine, the search of a line, the pick, and the completion of a plan. -/
namespace Sys2Proof.Machine

/-- The engine judged: with no plan in flight it takes the head of the Plan Queue if the yard is READY and 96 entries are free
(R98, R99). -/
def State.judgeEngine (s : State) : State :=
  match s.plan, s.planQueue with
  | none, slot :: rest =>
    if s.cond = .ready ∧ Config.planReserve ≤ s.freeEntries then
      { s with plan := some ⟨slot, some 1, [], [], false, false⟩, planQueue := rest }
    else s
  | _, _ => s

/-- A pack is in a pick list. -/
def picked (picks : List Pick) (pack : Nat) : Bool := picks.any (fun k => k.pack == pack)

/-- The packs of a list above an element. -/
def above (pack : Nat) : List Nat → List Nat
  | [] => []
  | a :: t => if a = pack then t else above pack t

/-- The packs above a pack in its stack that are not in the pick list (R104, R113). -/
def State.depthIn (s : State) (picks : List Pick) (stack pack : Nat) : Nat :=
  ((above pack (s.stack stack).list).filter (fun q => !(picked picks q))).length

/-- The stack a pack stands in. -/
def Loc.stackId : Loc → Option Nat
  | .stack id => some id
  | _ => Option.none

/-- The candidate conditions of R103 that do not depend on the key: pack `e`, truck `t`, the pick list of the plan. -/
def State.pickable (s : State) (picks : List Pick) (t : Truck) (e : Nat × Pack) : Bool :=
  match e.2.loc.stackId with
  | none => false
  | some id =>
    e.2.state == .stored && !e.2.hold && e.2.identified && !s.unrated e.2 && !(s.stack id).suspect && s.pendingArrivals id == 0 &&
      !s.touched (.stack id) && decide (s.depthIn picks id e.1 ≤ s.maxDigDepth) &&
      decide (s.estimate e.2 ≤ t.budget - t.est)

/-- A pack is a candidate for a key (R103). -/
def State.candidate (s : State) (picks : List Pick) (t : Truck) (k : Key) (e : Nat × Pack) : Bool :=
  s.pickable picks t e && k.accepts e.2.attrs

/-- The rank of a candidate: effective depth, then tallied_at (R105); the table's order gives the pack index. -/
def State.rank (s : State) (picks : List Pick) (e : Nat × Pack) : Nat :=
  (match e.2.loc.stackId with
    | none => 0
    | some id => s.depthIn picks id e.1) * 4294967296 + e.2.talliedAt.toNat

/-- The best candidate for a key (R105). -/
def State.best (s : State) (picks : List Pick) (t : Truck) (k : Key) : Option (Nat × Pack) :=
  leastBy (s.rank picks) (s.packs.filter (s.candidate picks t k))

/-- The search of a line: its primary key, then its alternate key (R105). -/
def State.searchLine (s : State) (picks : List Pick) (t : Truck) (l : Line) : Option ((Nat × Pack) × MatchKind) :=
  match s.best picks t l.primary with
  | some e => some (e, .primary)
  | none =>
    match l.alternate with
    | none => none
    | some k => (s.best picks t k).map (fun e => (e, .alternate))

/-- A plan with an entry appended to its pick list; the entry's stack joins the order of the stacks, unless it stands there (R106,
R112). -/
def Plan.append (p : Plan) (e : Pick) : Plan :=
  { p with
    picks := p.picks ++ [e]
    stackOrder := if p.stackOrder.contains e.stack then p.stackOrder else p.stackOrder ++ [e.stack] }

/-- A pick: the pack is reserved with its estimate frozen, L and the filled count rise, the pick list grows (R106). -/
def State.pick (s : State) (plan : Plan) (line : Nat) (e : Nat × Pack) (kind : MatchKind) : State :=
  let r : Reservation := ⟨plan.slot, some line, some kind, s.estimate e.2⟩
  { ((s.setPack e.1 { e.2 with state := .reserved, reservation := some r }).updateTruck plan.slot (fun t => t.raise r)) with
    plan := some (plan.append ⟨e.1, (e.2.loc.stackId).getD 0, line, kind⟩) }

/-- The current line advances to the next, or to done after the last (R102). -/
def Plan.advance (p : Plan) (t : Truck) (line : Nat) : Plan :=
  { p with line := if line < t.lines.length then some (line + 1) else none }

-- Completion (section 6.4).

/-- A FETCH of a pick to the truck's lane (R112). -/
def State.addFetch (s : State) (slot lane stack pack : Nat) : State :=
  s.addTask .fetch (some pack) (.stack stack) (.lane lane) (some slot) (s.stackZone stack) none

/-- The walk of one stack from its top down: a FETCH for a pick, a DIG for any other pack; where the Selector finds no destination the
walk stops, the picks below are released and NO_SPACE is set (R112, R114). -/
def State.walk (s : State) (picks : List Pick) (slot lane stack : Nat) : List Nat → State
  | [] => s
  | pack :: below =>
    if picked picks pack then (s.addFetch slot lane stack pack).walk picks slot lane stack below
    else
      match s.select ⟨.dig, pack, .stack stack, false⟩ with
      | none => ((below.filter (picked picks)).foldl State.release s).raise .noSpace
      | some d =>
        (s.addTask .dig (some pack) (.stack stack) (.stack d) (some slot) (s.stackZone stack) none).walk picks slot lane stack below

/-- The pick list of the plan in flight. -/
def State.picks (s : State) : List Pick :=
  match s.plan with
  | none => []
  | some p => p.picks

/-- The picks of a stack that lie too deep at the completion are released (R113). -/
def State.judgeDepth (s : State) (stack : Nat) : State :=
  ((s.stack stack).list.filter (fun p =>
    picked s.picks p && decide (s.maxDigDepth < s.depthIn s.picks stack p))).foldl State.release s

/-- One stack of the plan: judged for depth, then walked from its top to its lowest remaining pick (R112, R113). -/
def State.completeStack (slot lane : Nat) (s : State) (stack : Nat) : State :=
  let s' := s.judgeDepth stack
  s'.walk s'.picks slot lane stack ((s'.stack stack).list.dropWhile (fun p => !(picked s'.picks p))).reverse

/-- TRUCK_SHORT is set at a completion whose truck, found in none of LOADED, UNLOADING and RELEASED, is short without accept partial, or
has neither outstanding packs nor a load (R115). -/
def State.judgeShort (s : State) (found : TruckState) (slot : Nat) : State :=
  match s.truck? slot with
  | none => s
  | some t =>
    if (found = .loaded ∨ found = .unloading ∨ found = .released) then s
    else if (0 < t.shortfall ∧ t.partialOk = false) ∨ (s.outstanding slot = 0 ∧ t.load.isEmpty) then s.raise .truckShort
    else s

/-- The plan in flight becomes absent; the engine is judged and the pool's waiting creators are served (R115, R122). -/
def State.endPlan (s : State) : State := State.markFreed (State.markEngine { s with plan := none })

/-- The completion of a plan (R112 to R115): its stacks in their order, each judged and walked; then the truck's standing. -/
def State.completePlan (s : State) (plan : Plan) (t : Truck) : State :=
  let s1 := plan.stackOrder.foldl (State.completeStack plan.slot (t.lane.getD 0)) s
  let s2 := (s1.evaluateAtCompletion plan.slot).judgeShort t.state plan.slot
  let after := match s2.plan with
    | none => false
    | some p => p.replanAfter
  let s3 := s2.endPlan
  if after then s3.requestReplan plan.slot else s3

/-- One pick step of a plan (R102). -/
def State.pickStep (s : State) (plan : Plan) (t : Truck) : State :=
  if plan.abort then s.abortPlan
  else if (t.state = .loaded ∨ t.state = .unloading ∨ t.state = .released) ∧ plan.line.isSome then
    { s with plan := some { plan with line := none } }
  else
    match plan.line with
    | none => s.completePlan plan t
    | some n =>
      match t.lines[n - 1]? with
      | none => { s with plan := some { plan with line := none } }
      | some l =>
        if l.want ≤ l.filled ∨ t.maxPacks ≤ s.packCount plan.slot then { s with plan := some (plan.advance t n) }
        else
          match s.searchLine plan.picks t l with
          | some (e, kind) => s.pick plan n e kind
          | none => { s with plan := some (plan.advance t n) }

end Sys2Proof.Machine
end

