-- ==== Sys2Proof/Machine/Settle.lean ====
section
/-! DEFINITION. The end of an event: what the changes it made still owe the yard (R72, R122, R93, R157, R85, R82, R98, R30, R40), the
attention lines (R178), READY (R179) and the image writes of the Retained Store (R189). -/
namespace Sys2Proof.Machine

/-- The end of the stocktake is judged (R40). -/
def State.judgeStocktake (s : State) : State :=
  if s.stocktake.active ∧ s.backlog.all (fun e => !(e.2 == .stocktake)) ∧
      s.tasks.all (fun t => !(t.kind == .survey && t.reason == some .stocktake)) then
    State.raise { s with stocktake := { s.stocktake with active := false } } .stocktakeDone
  else s

/-- A stage of the settling: done when it is owed. -/
def State.stage (owed : State → Bool) (f : State → State) (s : State) : State := if owed s then f s else s

/-- The returns of the CANCELLING trucks are listed (R92, R122). Where the last FETCHes of two such trucks end at one event, the manual
does not say whose packs join first: the model lists the trucks in ascending slot order, a DESIGN CHOICE (log 47). -/
def State.listAllCancelled (s : State) : State := s.slots.foldl State.listCancelled s

/-- The ends of unloadings and cancellations are judged (R93, R157). -/
def State.watchTrucks (s : State) : State :=
  let s' := s.slots.foldl State.endUnloading s
  s'.slots.foldl State.completeCancel s'

/-- What an event's own changes owe the yard, done when they are complete (log 14): returns of cancelling trucks are listed (R92);
unresolved tasks are retried after a space event (R72); free pool entries go to the returns to create and the deck packs (R122); ends
of unloadings and cancellations are judged (R121); admission (R85), GATE_HOLD (R82), the engine (R98), the feeder (R30) and the end
of the stocktake (R40) are judged. Afterwards nothing is owed. -/
def State.settle (s : State) : State :=
  let s := s.stage (·.marks.watch) State.listAllCancelled
  let s := s.stage (·.marks.space) State.retry
  let s := s.stage (fun s => s.marks.freed || s.marks.serve) State.serveReturns
  let s := s.stage (fun s => s.marks.freed || s.marks.puts) State.servePuts
  let s := s.stage (·.marks.watch) State.watchTrucks
  let s := s.stage (·.marks.lanes) State.admission
  let s := s.stage (·.marks.gate) State.judgeGate
  let s := s.stage (fun s => s.marks.freed || s.marks.engine) State.judgeEngine
  let s := s.stage (fun s => s.marks.freed || s.marks.feed) State.feed
  let s := s.stage (·.marks.take) State.judgeStocktake
  s.clearMarks

-- Attention lines and READY (section 10.6).

/-- At least one set event flag is routed to an attention line (R178). -/
def State.lineOn (s : State) (n : Nat) : Bool := Event.all.any (fun e => s.flag e && s.route e == some n)

/-- The attention lines judged on the flags and the routes, READY on the yard condition (R178, R179). -/
def State.judgeLines (s : State) : State :=
  { s with pins := { s.pins with attn := (List.range 6).map s.lineOn, ready := s.cond == .ready } }

-- The Retained Store (section 11.3).

/-- The content the Retained Store is to hold (R189). -/
def State.retainedContent (s : State) : RetainedRecord where
  packs := s.packs
  stackMap := s.stackMap
  deck := s.deck
  suspects := (s.backlog.filter (fun e => e.2 == .suspect)).map (·.1)
  shipLog := s.shipLog
  minute := s.clock.minute
  stale := s.clock.stale
  wet := s.wet
  modes := (List.range Config.loaderCount).map (fun n => (s.loader n).mode)

/-- Image A has the lower generation: a write goes into it (R189). -/
def RetainedStore.writesA (r : RetainedStore) : Bool := decide (r.a.gen ≤ r.b.gen)

/-- The image a write leaves whole (R189). -/
def RetainedStore.kept (r : RetainedStore) : Image := if r.writesA then r.b else r.a

/-- The store with its older image changed. -/
def RetainedStore.onOlder (r : RetainedStore) (f : Image → Image) : RetainedStore :=
  if r.writesA then { r with a := f r.a } else { r with b := f r.b }

/-- A completed change of the retained content starts a write of the whole content into the older image, whose check fails until the
write ends (R189). A change made while a write is in progress waits for its end (log 12). -/
def State.beginRetainedWrite (s : State) : State :=
  if s.supply = true ∧ s.retained.write = none ∧
      ¬(s.retained.kept.ok = true ∧ s.retained.kept.content = s.retainedContent) then
    { s with retained :=
        { s.retained.onOlder (fun i => { i with ok := false }) with write := some s.retainedContent } }
  else s

/-- An image write ends: the older image holds the written content, a generation one higher than the other's, and a matching check
(R189). -/
def RetainedStore.endWrite (r : RetainedStore) : RetainedStore :=
  match r.write with
  | none => r
  | some c => { r.onOlder (fun _ => ⟨r.kept.gen + 1, c, true⟩) with write := none }

/-- The end of every step: the lines are judged and a changed retained content starts its write (R178, R179, R189). -/
def State.finish (s : State) : State := s.judgeLines.beginRetainedWrite

/-- An event carried out with what it owes: nothing is owed before it or after it. -/
def State.event (s : State) (f : State → State) : State := (f s.clearMarks).settle

/-- A step's event carried out whole: what it owes done after it, the lines and the Retained Store last. -/
def State.whole (s : State) (f : State → State) : State := (s.event f).finish

end Sys2Proof.Machine
end

