-- ==== Sys2Proof/Machine/Supervisor.lean ====
section
/-! DEFINITION. Loader supervision (chapter 8): link condition, effective state, going down, coming up, office modes. -/
namespace Sys2Proof.Machine

/-- A loader's task in ISSUED is revoked (R145 step 1, R150). -/
def State.revokeIssued (s : State) (n : Nat) : State :=
  match (s.loader n).current.bind s.task? with
  | none => s
  | some t => if t.state = .issued then s.revoke t else s

/-- A loader goes down: its ISSUED task is revoked, its QUEUED and WAIT_SPACE tasks go to up loaders of their zones (R145). -/
def State.goDown (s : State) (n : Nat) : State := (s.revokeIssued n).reassign (fun t => t.loader == n)

/-- A loader comes up: the tasks held by down loaders go to up loaders of their zones (R147). -/
def State.comeUp (s : State) : State := s.reassign (fun t => !(s.effective t.loader).up)

/-- What a change of a loader's effective state hands on (R144). -/
def State.judgeLoader (s : State) (n : Nat) (before : EffState) : State :=
  match before.up, (s.effective n).up with
  | true, false => s.goDown n
  | false, true => s.comeUp
  | _, _ => s

/-- A valid frame on a loader's port makes it LINKED and restarts its silence timer (R142). -/
def State.linkUp (s : State) (n : Nat) : State :=
  (s.setLoader n { s.loader n with linked := true, silence := some 0 }).judgeLoader n (s.effective n)

/-- A loader's running silence timer expires and stops; a LINKED loader becomes SILENT and LOADER_LOST is set (R142). -/
def State.silenceExpires (s : State) (n : Nat) : State :=
  let r := s.loader n
  if r.silence.isNone then s
  else if r.linked then
    ((s.setLoader n { r with linked := false, silence := none }).raise .loaderLost).judgeLoader n (s.effective n)
  else s.setLoader n { r with silence := none }

/-- A LIFTED current task of a loader set OFFLINE is removed and its pack LOST; the count of packs made lost (R150). -/
def State.loseLifted (s : State) (n : Nat) : State × Nat :=
  match (s.loader n).current.bind s.task? with
  | none => (s, 0)
  | some t =>
    if t.state = .lifted then
      let pack := t.pack.getD 0
      (((s.makeLost pack).lose pack).raise .packLost |>.leavePool t .removed, 1)
    else (s, 0)

/-- An office mode written; the effective state is judged (R149, R150). The count is of packs made lost. -/
def State.setMode (s : State) (n : Nat) (mode : OfficeMode) : State × Nat :=
  if (s.loader n).mode = mode then (s, 0)
  else
    let before := s.effective n
    let s1 := s.setLoader n { s.loader n with mode := mode }
    let (s2, lost) := if s1.effective n = .offline then (s1.revokeIssued n).loseLifted n else (s1, 0)
    (s2.judgeLoader n before, lost)

/-- The silence limit lowered: each running timer already at or past it expires, in ascending loader order (R143). -/
def State.expireSilent (s : State) : State :=
  (List.range Config.loaderCount).foldl (fun s n =>
    match (s.loader n).silence with
    | none => s
    | some e => if s.silenceLimit ≤ e then s.silenceExpires n else s) s

/-- A running task timer expires, one time only: an ISSUED task is revoked and TASK_TIMEOUT set; a LIFTED task sets TASK_OVERDUE
(R139). The elapsed seconds of the LIFTED task's timer then stay at its timeout: a DESIGN CHOICE (log 53). -/
def State.taskExpires (s : State) (id : Nat) : State :=
  match s.task? id with
  | none => s
  | some t =>
    match t.timer with
    | none => s
    | some m =>
      if m.elapsed < m.timeout then
        match t.state with
        | .issued => (s.revoke t).raise .taskTimeout
        | .lifted => (s.updateTask id (fun u => { u with timer := some ⟨m.timeout, m.timeout⟩ })).raise .taskOverdue
        | _ => s
      else s

end Sys2Proof.Machine
end

