-- ==== Sys2Proof/Machine/Dispatcher.lean ====
section
/-! DEFINITION. The Dispatcher and the loader's task messages (chapter 7): issue, lift, mismatch, placement, conversion, put-back. -/
namespace Sys2Proof.Machine

-- Issue (sections 7.3 and 7.4).

/-- The stack a source names. -/
def Source.stackId : Source → Option Nat
  | .stack id => some id
  | _ => none

/-- A task stands first in the order of its source place (R127). -/
def State.firstAtSource (s : State) (t : Task) : Bool := t.source.places.all (fun p => s.standsFirst p t.id)

/-- A task stands first in the order of its destination stack; it is not held back at a lane (R127). -/
def State.firstAtDest (s : State) (t : Task) : Bool :=
  match t.dest with
  | .stack id => s.standsFirst (.stack id) t.id
  | .lane _ | .unresolved | .absent => true

/-- A QUEUED task is issuable (R127). -/
def State.issuable (s : State) (t : Task) : Bool :=
  t.state == .queued && !(t.dest == .unresolved) && s.firstAtSource t && s.firstAtDest t &&
    (!(t.kind == .put) || s.deck.head? == t.pack)

/-- A QUEUED DIG or FETCH that stands first at its source stack while its pack is not the top entry is displaced (R127). -/
def State.displaced (s : State) (t : Task) : Bool :=
  (t.kind == .dig || t.kind == .fetch) && t.state == .queued &&
    match t.source.stackId with
    | none => false
    | some id => s.standsFirst (.stack id) t.id && !((s.stack id).list.getLast? == t.pack)

/-- A displaced task is removed; a displaced FETCH ends its pack's reservation as a loss (R127). -/
def State.displace (s : State) (t : Task) : State :=
  let s' := s.leavePool t .removed
  if t.kind = .fetch then s'.lose (t.pack.getD 0) else s'

/-- The search of a loader's QUEUED tasks in creation order: displaced tasks are removed on the way, the first issuable one is found
(R128). -/
def State.searchTasks : List Nat → State → State × Option Nat
  | [], s => (s, none)
  | id :: rest, s =>
    match s.task? id with
    | none => searchTasks rest s
    | some t =>
      if s.displaced t then searchTasks rest (s.displace t)
      else if s.issuable t then (s, some id)
      else searchTasks rest s

/-- The ids of a loader's QUEUED tasks in creation order (R128). -/
def State.queuedOf (s : State) (n : Nat) : List Nat :=
  (s.tasks.filter (fun t => t.state == .queued && t.loader == n)).map (·.id)

/-- A task is issued to a loader: its timer starts with the task timeout in force, the loader's previous task is cleared (R129). -/
def State.issue (s : State) (n : Nat) (id : Nat) : State :=
  (s.updateTask id (fun t => { t with state := .issued, timer := some ⟨0, s.taskTimeout⟩ })).setLoader n
    { s.loader n with current := some id, previous := none }

/-- The load stack of a task's truck. A task without a truck has none, and the model counts it as empty: a DESIGN CHOICE where R129 is asked
for a tier at a lane (log 49). -/
def State.loadOf (s : State) (t : Task) : List Nat :=
  match t.truck.bind s.truck? with
  | none => []
  | some k => k.load

/-- The destination a task's answer names and its expected tier: a stack's present height, the number of packs on the truck (R129).
A LIFTED FETCH whose truck's slot a GONE has freed (R134) keeps its lane as destination and has no truck: the manual gives no tier there
until PLACE converts it, and the model gives 0, a DESIGN CHOICE (log 49). -/
def State.target (s : State) (t : Task) : Target :=
  match t.dest with
  | .stack id => ⟨.stack id, s.height id⟩
  | .lane n => ⟨.lane n, (s.loadOf t).length⟩
  | .unresolved | .absent => ⟨.absent, 0⟩

/-- The expected source tier (R129): the pack's tier, a SURVEY's stack height, 0 for the deck, the pack's load position for a lane.
A pack already lifted counts as standing where it stood, on top of what is left (log 26). A task whose source is a lane and whose truck is
none, a converted task (R134) or a LIFTED RETURN whose truck's slot a GONE has freed (R161): the manual gives no tier there, and the model
gives 0, whatever stands at the lane now: a DESIGN CHOICE (log 49). -/
def State.sourceTier (s : State) (t : Task) : Nat :=
  match t.kind, t.source with
  | .survey, .stack id => s.height id
  | _, .stack id => placeIn (t.pack.getD 0) (s.stack id).list
  | _, .lane _ => placeIn (t.pack.getD 0) (s.loadOf t)
  | _, .deck => 0

/-- The tag of a task's pack (R129). -/
def State.tagOf (s : State) (t : Task) : Option Nat := ((t.pack.bind s.pack?).map (·.tag))

/-- A task as NEXT answers it (R129). -/
def State.taskView (s : State) (t : Task) : TaskView := ⟨t.id, t.kind, s.tagOf t, t.source, s.sourceTier t, s.target t⟩

-- Naming a task (section 7.5).

/-- What a request that names a task by id meets (R130): the loader's current task, or an answer. -/
inductive Naming where
  | current (t : Task)
  | answered (a : Answer)
deriving DecidableEq, Repr

/-- A task id matched against the sending loader's dispatch record (R130). -/
def State.naming (s : State) (n : Nat) (id : Nat) (req : TaskReq) : Naming :=
  match (s.loader n).current, s.task? id, (s.loader n).previous with
  | some c, some t, prev =>
    if c = id then .current t else previousAnswer prev
  | _, _, prev => previousAnswer prev
where
  /-- the answer the previous task gives -/
  previousAnswer : Option Previous → Naming
    | none => .answered (.only .notYourTask)
    | some p =>
      if p.id = id then
        match p.outcome with
        | .revoked => .answered (.only .revoked)
        | .ended r a => if r = req then .answered a else .answered (.only .notYourTask)
      else .answered (.only .notYourTask)

-- Lifting (section 7.6).

/-- A pack taken off the deck wherever it stands; MILL_HOLD is judged (R61, R65). -/
def State.offDeck (s : State) (pack : Nat) : State := State.judgeMill { s with deck := takeOut pack s.deck }

/-- A task's pack taken from its source: the top of a stack (a space event), the deck head, the top of the truck's load (R131). -/
def State.takeFromSource (s : State) (t : Task) : State :=
  let pack := t.pack.getD 0
  match t.source with
  | .stack id => (s.pullStack id pack).markSpace
  | .deck => s.offDeck pack
  | .lane _ =>
    match t.truck with
    | none => s
    | some slot => s.updateTruck slot (fun k => { k with load := takeOut pack k.load })

/-- What a RETURN's lift clears from its pack (R131). -/
def Pack.kept (p : Pack) : Option Kept := p.reservation.map (fun r => ⟨r, p.visit, p.loadSeq⟩)

/-- A pack leaves its truck: reservation, visit number and load sequence are cleared, L and the line's filled count fall, no replan
request follows (R131, R132). -/
def State.leaveTruck (s : State) (pack : Nat) : State :=
  match s.pack? pack with
  | none => s
  | some p =>
    let s' := s.setPack pack { p with reservation := none, visit := none, loadSeq := none }
    match p.reservation with
    | none => s'
    | some r => s'.updateTruck r.slot (fun t => t.lower r)

/-- The lift of the right pack (R131): the pack is ON_LOADER, the task LIFTED; a RETURN keeps what its pack loses. -/
def State.takeLift (s : State) (n : Nat) (t : Task) : State :=
  let pack := t.pack.getD 0
  let kept := if t.kind = .ret then (s.pack? pack).bind Pack.kept else none
  let s1 := s.takeFromSource t
  let s2 := if t.kind = .ret then (s1.leaveTruck pack).markWatch else s1
  let s3 := s2.movePack pack .onLoader (.loader n)
  s3.updateTask t.id (fun u => { u with state := .lifted, kept := kept, liftTarget := some (s3.target t) })

/-- The deck case of a mismatch: a scanned pack that is INBOUND moves to the deck head (R61, R132). -/
def State.toDeckHead (s : State) (tag : Nat) : State :=
  match s.findTag tag with
  | none => s
  | some (i, p) => if p.state = .inbound then { s with deck := i :: takeOut i s.deck } else s

/-- The expected pack of a failed task is removed from its source and becomes LOST, with the consequences by source and kind
(R132, R138). -/
def State.failPack (s : State) (t : Task) : State :=
  let pack := t.pack.getD 0
  let s1 := s.takeFromSource t
  let s2 := match t.source with
    | .stack id => s1.makeSuspect id
    | .deck | .lane _ => s1
  let s3 := s2.makeLost pack
  let s4 := match t.kind with
    | .fetch => s3.lose pack
    | .ret => (s3.leaveTruck pack).markWatch
    | .put | .dig | .survey => s3
  s4.raise .packLost

-- Placing (section 7.7).

/-- A FETCH whose truck's slot was freed is converted into a RETURN from the lane it was bound for (R134). It leaves the order of that
lane, and keeps its place in the order of the stack it was lifted from until it leaves the pool (R126). -/
def State.convert (s : State) (t : Task) (lane : Nat) : State :=
  (s.updateTask t.id (fun u =>
    { u with kind := .ret, converted := true, source := .lane lane, zone := s.laneZone lane, dest := .unresolved })).leaveOrder
    (.lane lane) t.id

/-- A placement on a stack (R135): the pack is the new top and STORED; a PUT stamps stored_at. -/
def State.placeOnStack (s : State) (t : Task) (id : Nat) : State :=
  let pack := t.pack.getD 0
  let s1 := s.pushStack id pack
  { s1 with packs := Tab.modify s1.packs pack (fun p =>
      { p.moveTo .stored (.stack id) with storedAt := if t.kind = .put then some s.clock.minute else p.storedAt }) }

/-- A pack joins a truck's load stack with its visit number and its load sequence (R7, R136). -/
def State.loadPack (s : State) (slot pack : Nat) : State :=
  match s.truck? slot with
  | none => s
  | some t =>
    let s1 := s.setTruck slot { t with load := t.load ++ [pack], lastSeq := t.lastSeq + 1 }
    { s1 with packs := Tab.modify s1.packs pack (fun p =>
        { p.moveTo .onTruck (.truck slot) with visit := some t.visit, loadSeq := some (t.lastSeq + 1) }) }

/-- A placement of a FETCH at its lane (R136); evaluation is not applied to a CANCELLING truck. -/
def State.placeOnTruck (s : State) (t : Task) (slot : Nat) : State := (s.loadPack slot (t.pack.getD 0)).evaluate slot

-- Putting back (section 7.8).

/-- The PUT of the deck head, if it is ISSUED, is revoked (R137). -/
def State.revokeDeckHead (s : State) : State :=
  match s.deck.head?.bind s.taskOf with
  | none => s
  | some t => if t.kind = .put ∧ t.state = .issued then s.revoke t else s

/-- The put-back of a PUT: an ISSUED PUT of the deck head is revoked, the pack is INBOUND at the head (R137). -/
def State.backToDeck (s : State) (pack : Nat) : State :=
  State.judgeMill (State.movePack { s.revokeDeckHead with deck := pack :: s.revokeDeckHead.deck } pack .inbound .deck)

/-- The put-back of a RETURN: the pack is on top of the load again, with what its lift cleared (R137). -/
def State.backToTruck (s : State) (t : Task) (slot : Nat) : State :=
  let pack := t.pack.getD 0
  let s1 := s.updateTruck slot (fun k => { k with load := k.load ++ [pack] })
  match t.kept with
  | none => s1.movePack pack .onTruck (.truck slot)
  | some k =>
    ({ s1 with packs := Tab.modify s1.packs pack (fun p =>
        { p.moveTo .onTruck (.truck slot) with
          reservation := some k.reservation, visit := k.visit, loadSeq := k.loadSeq }) }).updateTruck k.reservation.slot
      (fun u => u.raise k.reservation)

/-- The task put back returns to QUEUED in its place and its loader records PUT_BACK (R137). -/
def State.requeue (s : State) (n : Nat) (t : Task) (req : TaskReq) : State :=
  (s.updateTask t.id (fun u => { u with state := .queued, timer := none, kept := none, liftTarget := none })).releaseLoader n t.id
    (.ended req (.only .ok))

/-- A PUT_BACK is refused for a converted task, and for a FETCH or a RETURN whose truck is none (R137). -/
def Task.mayPutBack (t : Task) : Bool :=
  !t.converted && !((t.kind == .fetch || t.kind == .ret) && t.truck.isNone)

/-- The truck of a task is CANCELLING. -/
def State.cancelling (s : State) (t : Task) : Bool :=
  match t.truck.bind s.truck? with
  | none => false
  | some k => k.state == .cancelling

/-- The task with what a put-back leaves of it, as a later removal finds it. -/
def Task.requeued (t : Task) : Task := { t with state := .queued, timer := none, kept := none, liftTarget := none }

/-- The put-back of a LIFTED task (R137): its pack goes back to its source, a stack that grows past its tier limit is relieved; a FETCH
of a CANCELLING truck is removed and its reservation released (R92). -/
def State.takeBack (s : State) (n : Nat) (t : Task) : State :=
  let pack := t.pack.getD 0
  match t.source with
  | .deck => (s.backToDeck pack).requeue n t .putBack
  | .lane _ => (s.backToTruck t (t.truck.getD 0)).requeue n t .putBack
  | .stack id =>
    let s1 := (s.pushStack id pack).movePack pack (if t.kind = .fetch then .reserved else .stored) (.stack id)
    let s2 := s1.requeue n t .putBack
    let s3 := if t.kind = .fetch ∧ s.cancelling t = true then (s2.leavePool t.requeued .removed).release pack else s2
    s3.relieve id

end Sys2Proof.Machine
end

