-- ==== Sys2Proof/Machine/Link.lean ====
section
/-! DEFINITION. The link ports (sections 10.1 and 10.2): the messages, the judging of a good frame, the answer, the port's return to
HUNTING. -/
namespace Sys2Proof.Machine

/-- The messages of Table 10-4. -/
inductive Msg where
  | status | eventAck | arrive | weigh | gone | cancel | truckQuery | packIn | deckPull | deckQuery | hello | next | lift | place
  | putBack | fail | surveyReport | cfgSet | cfgGet | hold | free | writeOff | packDefine | packQuery | stackQuery | acceptPartial
  | loaderMode | stocktake | stocktakeQuery | shipRead | clockSet | wetLevel | restart
deriving DecidableEq, Repr

/-- A message's code (Table 10-4). -/
def Msg.code : Msg → Nat
  | .status => 0x01
  | .eventAck => 0x02
  | .arrive => 0x10
  | .weigh => 0x11
  | .gone => 0x12
  | .cancel => 0x13
  | .truckQuery => 0x14
  | .packIn => 0x20
  | .deckPull => 0x21
  | .deckQuery => 0x22
  | .hello => 0x30
  | .next => 0x31
  | .lift => 0x32
  | .place => 0x33
  | .putBack => 0x34
  | .fail => 0x35
  | .surveyReport => 0x36
  | .cfgSet => 0x40
  | .cfgGet => 0x41
  | .hold => 0x42
  | .free => 0x43
  | .writeOff => 0x44
  | .packDefine => 0x45
  | .packQuery => 0x46
  | .stackQuery => 0x47
  | .acceptPartial => 0x48
  | .loaderMode => 0x49
  | .stocktake => 0x4A
  | .stocktakeQuery => 0x4B
  | .shipRead => 0x4C
  | .clockSet => 0x4D
  | .wetLevel => 0x4E
  | .restart => 0x4F

/-- The messages in the order of Table 10-4. -/
def Msg.all : List Msg :=
  [.status, .eventAck, .arrive, .weigh, .gone, .cancel, .truckQuery, .packIn, .deckPull, .deckQuery, .hello, .next, .lift, .place,
    .putBack, .fail, .surveyReport, .cfgSet, .cfgGet, .hold, .free, .writeOff, .packDefine, .packQuery, .stackQuery, .acceptPartial,
    .loaderMode, .stocktake, .stocktakeQuery, .shipRead, .clockSet, .wetLevel, .restart]

/-- The message a code names; none for a code outside Table 10-4. -/
def Msg.ofCode (code : Nat) : Option Msg := Msg.all.find? (fun m => m.code == code)

/-- The port is one of G, T and O. -/
def isStation : Port → Bool
  | .g | .t | .o => true
  | .l _ => false

/-- The loader of a loader port. -/
def loaderOf : Port → Option Nat
  | .l n => some n.val
  | .g | .t | .o => none

/-- The ports a message is permitted on (Table 10-4). -/
def Msg.permitted (m : Msg) (p : Port) : Bool :=
  match m with
  | .status => true
  | .eventAck => isStation p
  | .arrive | .weigh | .gone => p == .g
  | .cancel | .truckQuery => p == .g || p == .o
  | .packIn | .deckPull | .deckQuery => p == .t
  | .hello | .next | .lift | .place | .putBack | .fail | .surveyReport => (loaderOf p).isSome
  | .cfgSet | .cfgGet | .hold | .free | .writeOff | .packDefine | .packQuery | .stackQuery | .acceptPartial | .loaderMode
  | .stocktake | .stocktakeQuery | .shipRead | .clockSet | .wetLevel | .restart => p == .o

/-- The messages an OFFLINE loader's port answers OFFLINE (R151). -/
def Msg.refusedOffline : Msg → Bool
  | .next | .lift | .place | .putBack | .fail | .surveyReport => true
  | _ => false

/-- The code of an answer (R168). -/
def answerCode (code : Nat) : Nat := if 0x80 ≤ code then 0xFF else code + 0x80

/-- The port takes the frames that arrive on it: the supply is present and no answer is held or being sent (R170, R183). -/
def State.listens (s : State) (p : Port) : Bool := s.supply && !((s.port p).cond == .answering)

/-- The arrival of a valid frame: on a loader port it makes the loader LINKED (R142). -/
def State.hear (s : State) (p : Port) : State :=
  match loaderOf p with
  | none => s
  | some n => s.linkUp n

/-- The answer is built in the port's answer buffer, and the port is ANSWERING; the frame it answers stands in the receive buffer, which
is emptied when the port returns to HUNTING (R169, R170; log 6). -/
def State.putAnswer (s : State) (p : Port) (rx : List Byte) (code : Nat) (a : Answer) : State :=
  s.setPort p ⟨.answering, rx, false, some ⟨answerCode code, a⟩, (s.port p).rate⟩

/-- What carrying a request out gives: the state it leaves, and the answer as built from the state that is then complete (R170). -/
abbrev Act := State → State × (State → Answer)

/-- A request that changes nothing and is answered with a result alone. -/
def refuse (r : Result) : Act := fun s => (s, fun _ => .only r)

/-- A good frame taken for an answer (R169, R170): the loader is heard, the request is carried out whole with what it owes, the answer
is built from the state it left. The frame's bytes are in the receive buffer. A frame that arrives while the port does not listen is
lost. -/
def State.exchange (s : State) (p : Port) (rx : List Byte) (code : Nat) (act : Act) : State :=
  if s.listens p then
    let done := act (s.clearMarks.hear p)
    let left := done.1.settle
    (left.putAnswer p rx code (done.2 left)).finish
  else s

/-- The loader of a port is OFFLINE in effect. -/
def State.portOffline (s : State) (p : Port) : Bool :=
  match loaderOf p with
  | none => false
  | some n => s.effective n == .offline

/-- The link's own answer to a message, if one of the checks of R171 gives it. -/
def State.linkAnswer (s : State) (m : Msg) (p : Port) (len want : Nat) : Option Answer :=
  if m.permitted p = false then some (.only .notOnThisPort)
  else if len ≠ want then some (.only .badLength)
  else if s.cond = .starting ∧ m ≠ .status then some (.only .starting)
  else if m.refusedOffline && s.portOffline p then some .offline
  else none

/-- A message judged by the link's checks, then carried out by the rule that owns it (R171). -/
def gated (m : Msg) (p : Port) (len want : Nat) (act : Act) : Act := fun s =>
  match s.linkAnswer m p len want with
  | some a => (s, fun _ => a)
  | none => act s

/-- A good frame that carries a message (R171): `fields` are the bytes its body's fields spell. -/
def State.request (s : State) (m : Msg) (p : Port) (len want : Nat) (fields : List Byte) (act : Act) : State :=
  s.exchange p (frameBytes m.code len fields) m.code (gated m p len want act)

-- The port's own events (R169, R170).

/-- An A5h at a HUNTING port (R169): the port is RECEIVING, its gap timer runs, and the receive buffer is ready for the bytes that
follow. -/
def PortRec.start (r : PortRec) : PortRec :=
  if r.cond = .hunting then { r with cond := .receiving, rx := [], gap := true } else r

/-- A port that returns to HUNTING, its buffers empty, at the rate its setting gives (R167, R169; log 6). -/
def PortRec.hunt (_ : PortRec) (rate : Nat) : PortRec := ⟨.hunting, [], false, none, rate⟩

/-- The frame in reception is discarded and the port returns to HUNTING (R169). -/
def State.dropFrame (s : State) (p : Port) : State :=
  if s.supply = true ∧ (s.port p).cond = .receiving then s.setPort p ((s.port p).hunt (s.portRate (portNum p))) else s

/-- The rate of a port that is HUNTING is that of its setting (R167). -/
def State.takeRate (s : State) (n : Nat) : State :=
  let r := Tab.getD s.ports n PortRec.initial
  if r.cond = .hunting then
    { s with ports := Tab.putD PortRec.initial s.ports n { r with rate := s.portRate n } }
  else s

end Sys2Proof.Machine
end

