-- ==== Sys2Proof/Machine/Views.lean ====
section
/-! DEFINITION. What the queries answer: the items of each view, taken from the state as it stands. -/
namespace Sys2Proof.Machine

/-- A task's id, kind and state. -/
def Task.mark (t : Task) : TaskMark := ⟨t.id, t.kind, t.state⟩

/-- The items of STATUS (R173). -/
def State.statusView (s : State) : StatusView where
  cond := s.cond
  cause := s.cause
  flags := s.flags
  minute := s.clock.minute
  stale := s.clock.stale
  engine := s.engine
  trucks := s.trucks.length
  waiting := s.waiting.length
  packs := s.packs.length
  tasks := s.tasks.length
  deck := s.deck.length
  gateHold := s.pins.gateHold
  millHold := s.pins.millHold
  ready := s.pins.ready
  loaders := (List.range Config.loaderCount).map s.effective

/-- The Waiting Queue position of a slot, or none (R79). -/
def State.queuePosition (s : State) (slot : Nat) : Option Nat :=
  if s.waiting.contains slot then some (placeIn slot s.waiting) else none

/-- A truck's standing with the Plan Engine (R95). -/
def State.standing (s : State) (slot : Nat) : Standing :=
  if s.planInFlight slot then .inFlight else if s.planQueue.contains slot then .queued else .neither

/-- One pack of a load stack with the line and match kind of its reservation (R95). -/
def State.loadRow (s : State) (pack : Nat) : LoadRow :=
  ⟨pack, ((s.pack? pack).bind (·.reservation)).bind (·.line), ((s.pack? pack).bind (·.reservation)).bind (·.kind)⟩

/-- The items of TRUCK_QUERY (R95). -/
def State.truckView (s : State) (slot : Nat) (t : Truck) : TruckView where
  truck := t
  shortfall := t.shortfall
  position := s.queuePosition slot
  remaining := t.budget - t.est
  outstanding := s.outstanding slot
  loaded := s.loadedPacks slot
  packCount := s.packCount slot
  tasks := s.tasks.countP (fun u => u.truck == some slot)
  standing := s.standing slot
  load := t.load.map s.loadRow
  returns := (s.returnsOf slot).length

/-- One pack of the deck (R64). -/
def State.deckRow (s : State) (i : Nat) : DeckRow :=
  match s.pack? i with
  | none => ⟨i, 0, false, (s.taskOf i).map Task.mark⟩
  | some p => ⟨i, p.tag, p.hold, (s.taskOf i).map Task.mark⟩

/-- The items of DECK_QUERY (R64). -/
def State.deckView (s : State) : DeckView where
  count := s.deck.length
  lifted := s.liftedPuts
  millHold := s.pins.millHold
  high := s.millHigh
  low := s.millLow
  rows := s.deck.map s.deckRow

/-- The result an answer begins with. -/
def Answer.result : Answer → Result
  | .only r => r
  | .deckRefusal r _ => r
  | .task r _ => r
  | .target r _ _ => r
  | .notLoaded _ => .notLoaded
  | .offline => .offline
  | .status _ | .events _ | .arrived _ | .weighed _ | .gone _ _ _ | .cancelled _ _ _ | .truck _ | .packIn _ | .deckPulled _
  | .deck _ | .hello _ | .surveyed _ | .cfgSet _ _ _ _ | .cfgGet _ _ _ _ | .held _ _ | .freed _ | .pack _ | .stack _
  | .acceptPartial _ | .loaderMode _ _ _ | .stocktake _ | .stocktakeRecord _ | .shipment _ _ | .clock _ _ | .wet _
  | .restart _ => .ok

/-- A previous task as HELLO gives it (R152). -/
def Previous.mark (p : Previous) : PrevMark :=
  ⟨p.id, match p.outcome with
    | .revoked => none
    | .ended r a => some (r, a.result)⟩

/-- The items of HELLO (R152). -/
def State.helloView (s : State) (n : Nat) : HelloView where
  loader := n
  mode := (s.loader n).mode
  eff := s.effective n
  limit := s.silenceLimit
  current := ((s.loader n).current.bind s.task?).map Task.mark
  previous := (s.loader n).previous.map Previous.mark

/-- The items of PACK_QUERY (R20). -/
def State.packView (s : State) (i : Nat) (p : Pack) : PackView where
  index := i
  pack := p
  position := s.packPosition i p
  unrated := s.unrated p
  estimate := s.estimate? p
  task := (s.taskOf i).map Task.mark

/-- One pack of a stack (R42). -/
def State.stackRow (s : State) (i : Nat) : StackRow :=
  match s.pack? i with
  | none => ⟨i, 0, .stored, false, false, none⟩
  | some p => ⟨i, p.tag, p.state, p.hold, p.identified, p.reservation.map (·.slot)⟩

/-- A task's source or resolved destination is a stack (R42). -/
def Task.touchesStack (t : Task) (id : Nat) : Bool := t.source == .stack id || t.dest == .stack id

/-- The items of STACK_QUERY (R42). -/
def State.stackView (s : State) (id : Nat) : StackView where
  bay := bayOf id
  position := id % 8
  zone := s.bayZone (bayOf id)
  enabled := s.bayEnabled (bayOf id)
  tierLimit := s.tierLimit (bayOf id)
  covered := s.bayCovered (bayOf id)
  height := s.height id
  pending := s.pendingArrivals id
  suspect := (s.stack id).suspect
  backlog := Tab.get? s.backlog id
  survey := (s.surveyOf id).map (·.id)
  tasks := s.tasks.countP (fun t => t.touchesStack id)
  packs := (s.stack id).list.map s.stackRow

end Sys2Proof.Machine
end

