-- ==== Sys2Proof/Machine/Cfg.lean ====
section
/-! DEFINITION. CFG_SET and CFG_GET (section 11.2 and the owning rules of the settings). -/
namespace Sys2Proof.Machine

/-- The eight stacks of a bay. -/
def bayStacks (bay : Nat) : List Nat := (List.range 8).map (fun n => bay * 8 + n)

/-- A stack holds nothing and nothing is bound for it or works it (R27). -/
def State.stackIdle (s : State) (id : Nat) : Bool :=
  s.height id == 0 && s.pendingArrivals id == 0 && s.tasks.all (fun t => !(t.touchesStack id))

/-- A bay is empty (R27). -/
def State.bayEmpty (s : State) (bay : Nat) : Bool := (bayStacks bay).all s.stackIdle

/-- The owning rule's refusal of a value, if it has one (R27, R28, R66, R83 and the ranges of Table 11-2). -/
def State.cfgRefusal (s : State) (k : SettingKind) (i v : Nat) : Option Result :=
  if k.valueInRange v = false then some .badField
  else
    match k with
    | .bayEnabled | .bayZone | .bayTierLimit =>
      if s.setting k i = v ∨ s.bayEmpty i = true then none else some .bayOccupied
    | .zonePrimary => if s.zonePartner i = some v then some .badField else none
    | .zonePartner => if s.zonePrimary i = v then some .badField else none
    | .millHigh => if v ≤ s.millLow then some .badField else none
    | .millLow => if s.millHigh ≤ v then some .badField else none
    | .gateHigh => if v ≤ s.gateLow then some .badField else none
    | .gateLow => if s.gateHigh ≤ v then some .badField else none
    | .bayCovered | .deckZone | .density | .uplift | .wetDwell | .margin | .ageLimit | .laneCount | .laneZone | .maxDigDepth
    | .taskTimeout | .silenceLimit | .portRate | .route => none

/-- A working value written (R185). -/
def State.setWorking (s : State) (k : SettingKind) (i v : Nat) : State := { s with working := writeSetting s.working k i v }

/-- A pack becomes rated by a density entry that was 0, and is identified (R47). -/
def Pack.ratedBy (p : Pack) (entry : Nat) : Bool :=
  p.attrs.species * 4 + p.attrs.moisture == entry && p.measured.isNone && p.identified

/-- The packs a density entry rates are passed on as new stock in ascending order of index (R47). -/
def State.passRated (s : State) (entry : Nat) : State :=
  ((s.packs.filter (fun e => e.2.ratedBy entry)).map (·.1)).foldl State.passOn s

/-- The tasks of a zone held by down loaders are reassigned (R148). -/
def State.reassignZone (s : State) (zone : Nat) : State :=
  s.reassign (fun t => t.zone == zone && !(s.effective t.loader).up)

/-- A NORMAL truck in WAITING has waited the age limit (R80, R81). -/
def State.aged (s : State) (t : Truck) : Bool :=
  t.state == .waiting && !t.express && decide (s.ageLimit * 60 ≤ t.waiting)

/-- The trucks past the age limit are promoted in ascending order of arrival sequence (R81). Trucks of equal arrival sequence, the counter
being at its top (R75), are promoted in ascending slot order: a DESIGN CHOICE (log 46). -/
def State.promoteAged (s : State) : State :=
  ((sortBy (fun e => e.2.arrivalSeq) (s.trucks.filter (fun e => s.aged e.2))).map (·.1)).foldl State.promote s

/-- The effects the owning rule states for an accepted change, the working value being `v` already and `old` before. -/
def State.cfgEffect (s : State) (k : SettingKind) (i old v : Nat) : State :=
  match k with
  | .bayEnabled => if old = 0 ∧ v = 1 then s.markSpace else s
  | .bayTierLimit => if old < v then s.markSpace else s
  | .zonePrimary | .zonePartner => s.reassignZone i
  | .density => if old = 0 ∧ 0 < v then s.passRated i else s
  | .millHigh | .millLow => s.judgeMill
  | .gateHigh | .gateLow => s.judgeGate
  | .ageLimit => s.promoteAged
  | .laneCount => if old < v then s.markAdmit else s
  | .silenceLimit => s.expireSilent
  | .portRate => if i = portNum .o then s else s.takeRate i
  | .bayZone | .bayCovered | .deckZone | .uplift | .wetDwell | .margin | .laneZone | .maxDigDepth | .taskTimeout | .route => s

-- The write list (R187).

/-- The entry in writing, if the head is (R187). -/
def State.inWriting (s : State) : List WriteEntry := if s.writing then s.writeList.take 1 else []

/-- The waiting entries, in order (R187). -/
def State.waitingWrites (s : State) : List WriteEntry := if s.writing then s.writeList.drop 1 else s.writeList

/-- An item is among some entries of the write list. -/
def listsItem (l : List WriteEntry) (item : Nat) : Bool := l.any (fun e => e.item == item)

/-- The value of an item's entry among some entries of the write list. -/
def itemValue (l : List WriteEntry) (item : Nat) : Option Nat := (l.find? (fun e => e.item == item)).map (·.value)

/-- An accepted CFG_SET given to the write list (R187). -/
def State.giveToStore (s : State) (k : SettingKind) (i v : Nat) : State :=
  let item := k.key i
  if listsItem s.waitingWrites item then
    { s with writeList := s.inWriting ++ s.waitingWrites.map (fun e => if e.item = item then ⟨item, v⟩ else e) }
  else if s.storedSetting k i ≠ v ∨ listsItem s.inWriting item = true then
    { s with writeList := s.writeList ++ [⟨item, v⟩] }
  else s

/-- An accepted CFG_SET (R186). -/
def State.applyCfg (s : State) (k : SettingKind) (i v : Nat) : State :=
  ((s.setWorking k i v).cfgEffect k i (s.setting k i) v).giveToStore k i v

/-- CFG_SET (R186). -/
def cfgSet (kind index value : Nat) : Act := fun s =>
  match SettingKind.ofNum kind with
  | none => refuse .badField s
  | some k =>
    if k.count ≤ index then refuse .badField s
    else
      match s.cfgRefusal k index value with
      | some r => refuse r s
      | none =>
        (s.applyCfg k index value,
          fun left => .cfgSet kind index (left.setting k index) (listsItem left.writeList (k.key index)))

/-- The value CFG_GET gives for an item's waiting or in-writing entry, or none (R188). Where the item has both, which of them is a free
value (log 39). -/
def State.pendingValue (s : State) (item : Nat) : Option Nat :=
  match itemValue s.waitingWrites item, itemValue s.inWriting item with
  | some w, some h => some (if Config.pendingShowsWaiting then w else h)
  | some w, none => some w
  | none, h => h

/-- CFG_GET (R188). -/
def cfgGet (kind index : Nat) : Act := fun s =>
  match SettingKind.ofNum kind with
  | none => refuse .badField s
  | some k =>
    if k.count ≤ index then refuse .badField s
    else
      (s, fun left => .cfgGet kind (left.setting k index) (left.storedSetting k index) (left.pendingValue (k.key index)))

-- The store's own steps (R187).

/-- The write of the head begins (R187). -/
def State.beginConfigWrite (s : State) : State := if s.writeList.isEmpty then s else { s with writing := true }

/-- The write of the head ends: the stored value is the entry's and the entry leaves the list (R187). The next entry waits until its own
write begins, which is the row WRITE_OF_HEAD_BEGINS: "the list is empty" or "4, waiting" stands after a write's end in the worked
sequence of section 11.2 (log 13). -/
def State.endConfigWrite (s : State) : State :=
  match s.writing, s.writeList with
  | true, e :: rest =>
    { s with
      stored := match SettingKind.ofNum (e.item / 64) with
        | none => s.stored
        | some k => writeSetting s.stored k (e.item % 64) e.value
      writeList := rest
      writing := false }
  | _, _ => s

-- The commands: one row for each group of kinds, all carried by CFG_SET's one frame of 4 body bytes.

/-- CFG_SET of a bay's enabled, zone, tier limit or covered setting (R27; kinds 0 to 3). -/
def execCfgSetBay (p : Port) (len kind index value : Nat) (s : State) : Host.Outcome State Fault Refusal :=
  .next (s.request .cfgSet p len 4 (cfgBody kind index value) (cfgSet kind index value))

/-- CFG_SET of a zone's primary or partner, or the deck zone (R28; kinds 4 to 6). -/
def execCfgSetZone (p : Port) (len kind index value : Nat) (s : State) : Host.Outcome State Fault Refusal :=
  .next (s.request .cfgSet p len 4 (cfgBody kind index value) (cfgSet kind index value))

/-- CFG_SET of a density entry (R47; kind 7). -/
def execCfgSetDensity (p : Port) (len index value : Nat) (s : State) : Host.Outcome State Fault Refusal :=
  .next (s.request .cfgSet p len 4 (cfgBody 7 index value) (cfgSet 7 index value))

/-- CFG_SET of an uplift entry (R48; kind 8). -/
def execCfgSetUplift (p : Port) (len index value : Nat) (s : State) : Host.Outcome State Fault Refusal :=
  .next (s.request .cfgSet p len 4 (cfgBody 8 index value) (cfgSet 8 index value))

/-- CFG_SET of the wet dwell (R48; kind 9). -/
def execCfgSetWetDwell (p : Port) (len index value : Nat) (s : State) : Host.Outcome State Fault Refusal :=
  .next (s.request .cfgSet p len 4 (cfgBody 9 index value) (cfgSet 9 index value))

/-- CFG_SET of the margin (R54; kind 10). -/
def execCfgSetMargin (p : Port) (len index value : Nat) (s : State) : Host.Outcome State Fault Refusal :=
  .next (s.request .cfgSet p len 4 (cfgBody 10 index value) (cfgSet 10 index value))

/-- CFG_SET of a mill mark (R66; kinds 11 and 12). -/
def execCfgSetMillMark (p : Port) (len kind index value : Nat) (s : State) : Host.Outcome State Fault Refusal :=
  .next (s.request .cfgSet p len 4 (cfgBody kind index value) (cfgSet kind index value))

/-- CFG_SET of a gate mark (R83; kinds 13 and 14). -/
def execCfgSetGateMark (p : Port) (len kind index value : Nat) (s : State) : Host.Outcome State Fault Refusal :=
  .next (s.request .cfgSet p len 4 (cfgBody kind index value) (cfgSet kind index value))

/-- CFG_SET of the age limit (R81; kind 15). -/
def execCfgSetAgeLimit (p : Port) (len index value : Nat) (s : State) : Host.Outcome State Fault Refusal :=
  .next (s.request .cfgSet p len 4 (cfgBody 15 index value) (cfgSet 15 index value))

/-- CFG_SET of the lane count (R86; kind 16). -/
def execCfgSetLaneCount (p : Port) (len index value : Nat) (s : State) : Host.Outcome State Fault Refusal :=
  .next (s.request .cfgSet p len 4 (cfgBody 16 index value) (cfgSet 16 index value))

/-- CFG_SET of a lane's zone (R86; kind 17). -/
def execCfgSetLaneZone (p : Port) (len index value : Nat) (s : State) : Host.Outcome State Fault Refusal :=
  .next (s.request .cfgSet p len 4 (cfgBody 17 index value) (cfgSet 17 index value))

/-- CFG_SET of the max dig depth (R101; kind 18). -/
def execCfgSetMaxDigDepth (p : Port) (len index value : Nat) (s : State) : Host.Outcome State Fault Refusal :=
  .next (s.request .cfgSet p len 4 (cfgBody 18 index value) (cfgSet 18 index value))

/-- CFG_SET of the task timeout (R139; kind 19). -/
def execCfgSetTaskTimeout (p : Port) (len index value : Nat) (s : State) : Host.Outcome State Fault Refusal :=
  .next (s.request .cfgSet p len 4 (cfgBody 19 index value) (cfgSet 19 index value))

/-- CFG_SET of the silence limit (R143; kind 20). -/
def execCfgSetSilenceLimit (p : Port) (len index value : Nat) (s : State) : Host.Outcome State Fault Refusal :=
  .next (s.request .cfgSet p len 4 (cfgBody 20 index value) (cfgSet 20 index value))

/-- CFG_SET of a port rate (R167; kind 21). -/
def execCfgSetPortRate (p : Port) (len index value : Nat) (s : State) : Host.Outcome State Fault Refusal :=
  .next (s.request .cfgSet p len 4 (cfgBody 21 index value) (cfgSet 21 index value))

/-- CFG_SET of a route (R177; kind 22). -/
def execCfgSetRoute (p : Port) (len index value : Nat) (s : State) : Host.Outcome State Fault Refusal :=
  .next (s.request .cfgSet p len 4 (cfgBody 22 index value) (cfgSet 22 index value))

/-- CFG_GET, 2 body bytes. -/
def execCfgGet (p : Port) (len kind index : Nat) (s : State) : Host.Outcome State Fault Refusal :=
  .next (s.request .cfgGet p len 2 (be1 kind ++ be1 index) (cfgGet kind index))

end Sys2Proof.Machine
end

