-- ==== Sys2Proof/Machine/Start.lean ====
section
/-! DEFINITION. Resets and the start (sections 11.1, 11.3, 11.5, 11.6): what ends all work, the first phase, the start sweep, becoming
READY. -/
namespace Sys2Proof.Machine

/-- The image a start takes the yard record from; none for an invalid store (R190). -/
def RetainedStore.chosen (r : RetainedStore) : Option Image :=
  if r.lapse then none
  else
    match r.a.ok, r.b.ok with
    | true, true => some (if r.b.gen < r.a.gen then r.a else r.b)
    | true, false => some r.a
    | false, true => some r.b
    | false, false => none

/-- All work ended: every working record empty, every output released, every flag no, the ports closed, the write lists lost; the two
stores, the Yard Clock and the commands that wait are left (R140, R182, R183, R184). -/
def State.ended (s : State) : State :=
  { State.reset with
    pending := s.pending
    supply := s.supply
    cond := .starting
    cause := s.cause
    strap := s.strap
    flags := 0#16
    pins := Pins.released
    clock := s.clock
    stored := s.stored
    retained := { s.retained with write := none } }

/-- The Yard Clock a start of a kind sets, with what the Retained Store held (R182). -/
def startClock (cause : ResetCause) (kept : Option RetainedRecord) (now : Clock) : Clock :=
  match cause, kept with
  | .powerOn, some r => ⟨r.minute, true, 0⟩
  | .powerOn, none => ⟨0#32, true, 0⟩
  | .resetPin, _ => now
  | .officeRestart, _ => now
  | .officeRestartClear, _ => now

/-- The loaders' records with the retained office modes (R141, R153). -/
def loadersFrom (modes : List OfficeMode) : List (Nat × Loader) :=
  (List.range modes.length).foldl
    (fun t n => Tab.putD Loader.initial t n { Loader.initial with mode := modes.getD n .inService }) []

/-- The yard record of a valid image taken in (R189, R190). -/
def State.load (s : State) (r : RetainedRecord) : State :=
  { s with
    packs := r.packs
    stackMap := r.stackMap
    deck := r.deck
    backlog := r.suspects.map (fun id => (id, Reason.suspect))
    shipLog := r.shipLog
    wet := r.wet
    loaders := loadersFrom r.modes }

/-- The ports opened at the rates of their settings (R167, R184). -/
def State.openPorts (s : State) : State := (List.range 11).foldl State.takeRate s

/-- The yard becomes READY (R193): the deck packs, the feeder, admission, GATE_HOLD and the engine follow. -/
def State.becomeReady (s : State) : State :=
  ((((({ s with cond := .ready } : State).markPuts).markFeed).markAdmit).markGate).markEngine

/-- The record a start finds, and whether the store is valid (R190). -/
def RetainedStore.record (r : RetainedStore) : Option RetainedRecord := r.chosen.map (·.content)

/-- A start with a valid record: the second phase begins, and the sweep is to end (R184, R190). -/
def State.startKept (s : State) (r : RetainedRecord) : State :=
  { s.load r with retained := { s.retained with lapse := false } }

/-- A start whose yard record is emptied: both images are written with it, RETENTION_LOST tells of an invalid store, and the yard
becomes READY as soon as the ports are open (R184, R190). -/
def State.startEmpty (s : State) (valid : Bool) : State :=
  let s1 := { s with retained := RetainedStore.emptied s.clock.minute s.clock.stale }
  (if valid then s1 else s1.raise .retentionLost).becomeReady

/-- A start (R183, R184, R185, R190). -/
def State.start (s : State) (cause : ResetCause) (strap : Bool) : State :=
  let found := s.retained.record
  let base := { s.ended with
    supply := true
    cause := cause
    strap := strap
    working := if strap then [] else s.stored
    clock := startClock cause found s.clock }
  let opened := base.openPorts
  match cause, found with
  | .officeRestartClear, _ => opened.startEmpty found.isSome
  | _, some r => opened.startKept r
  | _, none => opened.startEmpty false

/-- The kind of the start a RESET_PIN begins: a start begun by POWER_ON and abandoned is begun again as POWER_ON (R183). -/
def State.pinCause (s : State) : ResetCause := if s.cond = .starting ∧ s.cause = .powerOn then .powerOn else .resetPin

/-- The main supply falls (R183). -/
def State.fall (s : State) : State := { s.ended with supply := false }

/-- A pack as the start sweep leaves it (R192). -/
def Pack.swept (p : Pack) : Pack :=
  match p.state with
  | .inbound | .stored | .lost | .orphaned => p
  | .reserved => { p with state := .stored, reservation := none }
  | .onLoader => { p.moveTo .lost .none with reservation := none }
  | .onTruck => { p.moveTo .orphaned .none with reservation := none }

/-- The start sweep ends and the yard becomes READY (R192, R193). Both are this one step, and no request is taken between them: a DESIGN
CHOICE (log 51), for section 11's worked sequence has a STATUS answered there, with STARTING and ORPHANS_PRESENT set. -/
def State.sweep (s : State) : State :=
  let s1 := { s with packs := s.packs.map (fun (e : Nat × Pack) => (e.1, e.2.swept)) }
  let s2 := if s.packs.any (fun e => e.2.state == .onTruck) then s1.raise .orphansPresent else s1
  s2.judgeMill.becomeReady

-- The commands.

/-- The main supply rises, or RESET_N goes high after it: a start of kind POWER_ON. -/
def execPowerOn (strap : Bool) (s : State) : Host.Outcome State Fault Refusal :=
  .next (s.whole (fun s => s.start .powerOn strap))

/-- RESET_N returns high while the supply is present; without the supply it begins nothing (R183). -/
def execResetPin (strap : Bool) (s : State) : Host.Outcome State Fault Refusal :=
  .next (if s.supply then s.whole (fun s => s.start s.pinCause strap) else s)

/-- The main supply falls. -/
def execSupplyFall (s : State) : Host.Outcome State Fault Refusal := .next (s.whole State.fall)

/-- The monitor records a lapse of the backup supply (R189). -/
def execBackupLapse (s : State) : Host.Outcome State Fault Refusal :=
  .next (s.whole (fun s => { s with retained := { s.retained with lapse := true } }))

/-- The start sweep ends; outside a start there is none. -/
def execStartSweep (s : State) : Host.Outcome State Fault Refusal :=
  .next (if s.supply = true ∧ s.cond = .starting then s.whole State.sweep else s)

end Sys2Proof.Machine
end

