-- ==== Sys2Proof/Machine/Events.lean ====
section
/-! DEFINITION. The events that no message brings: the ports' own (R169, R170), the timers (R80, R139, R142), the Yard Clock (R180), the
pick step (R102), the ends of the stores' writes (R187, R189), and the second of the time base. -/
namespace Sys2Proof.Machine

-- The Yard Clock (R180).

/-- The minute count advances and the phase becomes 0. -/
def Clock.advance (c : Clock) : Clock := { c with minute := c.minute + 1, phase := 0 }

/-- One second of the Yard Clock. -/
def Clock.second (c : Clock) : Clock := if 60 ≤ c.phase + 1 then c.advance else { c with phase := c.phase + 1 }

-- One second of the internal time base (log 2).

/-- A waiting truck's time counted one second on, held at its top (Table 5-1, R80). -/
def Truck.wait (t : Truck) : Truck :=
  if t.state = .waiting then { t with waiting := min Config.top32 (t.waiting + 1) } else t

/-- A task's running timer stands one second short of its timeout: this second's count expires it (R139). -/
def Timer.due (m : Timer) : Bool := decide (m.elapsed < m.timeout) && decide (m.timeout ≤ m.elapsed + 1)

/-- A task timer that does not expire in this second counted on (R139). The timer of a LIFTED task that has expired stays at its timeout:
R139 names no stop there and no count past it; a DESIGN CHOICE (log 53). -/
def Timer.second (m : Timer) : Timer := if m.timeout ≤ m.elapsed + 1 then m else { m with elapsed := m.elapsed + 1 }

/-- A loader's silence timer counted on. -/
def Loader.second (r : Loader) : Loader := { r with silence := r.silence.map (· + 1) }

/-- A loader's silence timer has reached the limit (R142). -/
def State.silentDue (s : State) (n : Nat) : Bool :=
  match (s.loader n).silence with
  | none => false
  | some e => decide (s.silenceLimit ≤ e)

/-- Every counter of the time base one second on, nothing expired yet. -/
def State.countSecond (s : State) : State :=
  { s with
    clock := s.clock.second
    trucks := s.trucks.map (fun (e : Nat × Truck) => (e.1, e.2.wait))
    tasks := s.tasks.map (fun (t : Task) => { t with timer := t.timer.map Timer.second })
    loaders := s.loaders.map (fun (e : Nat × Loader) => (e.1, e.2.second)) }

/-- The ids of the tasks whose timer expires in the second that begins, in creation order. -/
def State.dueTasks (s : State) : List Nat :=
  (s.tasks.filter (fun t =>
    match t.timer with
    | none => false
    | some m => m.due)).map (·.id)

/-- The slots of the trucks whose ageing timer expires, in ascending order of arrival sequence (R80), ties in ascending slot order
(DESIGN CHOICE, logs 3 and 46). -/
def State.dueTrucks (s : State) : List Nat :=
  (sortBy (fun e => e.2.arrivalSeq) (s.trucks.filter (fun e => s.aged e.2))).map (·.1)

/-- The loaders whose silence timer expires, in ascending order (R142). -/
def State.dueLoaders (s : State) : List Nat := (List.range Config.loaderCount).filter s.silentDue

/-- One second of the time base, with every expiry in it carried out whole: ageing timers, then task timers, then silence timers
(log 3). -/
def State.tick (s : State) : State :=
  let s1 := s.clearMarks.countSecond
  let s2 := s1.dueTrucks.foldl (fun s slot => s.event (fun s => s.promote slot)) s1
  let s3 := s.dueTasks.foldl (fun s id => s.event (fun s => s.taskExpires id)) s2
  let s4 := s1.dueLoaders.foldl (fun s n => s.event (fun s => s.silenceExpires n)) s3
  s4.finish

/-- What the block does when no command waits: a second of the time base passes while the supply is present (log 2). -/
def State.idle (s : State) : State := if s.supply then s.tick else s

-- The commands.

/-- A good frame whose code names no message is answered UNKNOWN_MESSAGE (R171). A code of Table 10-4 is no such frame. The row carries
the code alone: the frame's length and body are free values (log 6). -/
def execUnknownMessage (p : Port) (code : Nat) (s : State) : Host.Outcome State Fault Refusal :=
  .next (if (Msg.ofCode code).isNone then
      s.exchange p (frameBytes code (Config.unreadLength code % 251) []) code (refuse .unknownMessage)
    else s)

/-- The frame's check is wrong: the frame is discarded (R169). -/
def execBadCheckDiscard (p : Port) (s : State) : Host.Outcome State Fault Refusal := .next (s.whole (fun s => s.dropFrame p))

/-- More than 50 ms pass inside a frame: the partial frame is discarded (R169). -/
def execGapTimeout (p : Port) (s : State) : Host.Outcome State Fault Refusal := .next (s.whole (fun s => s.dropFrame p))

/-- A length byte above 250: the frame is discarded (R169). -/
def execLengthByteDiscard (p : Port) (s : State) : Host.Outcome State Fault Refusal := .next (s.whole (fun s => s.dropFrame p))

/-- An A5h arrives (R169). -/
def execStartByteReceived (p : Port) (s : State) : Host.Outcome State Fault Refusal :=
  .next (s.whole (fun s => if s.supply then s.setPort p (s.port p).start else s))

/-- The last byte of the answer a port sends has left it: the port is HUNTING; an accepted RESTART's reset takes place (R170, R191). -/
def State.answerSent (s : State) (p : Port) (strap : Bool) : State :=
  match (s.port p).cond, (s.port p).tx with
  | .answering, some ⟨_, .restart cause⟩ => s.start cause strap
  | .answering, _ => s.setPort p ((s.port p).hunt (s.portRate (portNum p)))
  | _, _ => s

/-- The last byte of an answer leaves its port. -/
def execAnswerSent (p : Port) (strap : Bool) (s : State) : Host.Outcome State Fault Refusal :=
  .next (s.whole (fun s => s.answerSent p strap))

/-- A NORMAL waiting truck's ageing timer expires (R80). -/
def execPromotion (slot : Nat) (s : State) : Host.Outcome State Fault Refusal := .next (s.whole (fun s => s.promote slot))

/-- A task's timer expires (R139). -/
def execTaskTimerExpiry (id : Nat) (s : State) : Host.Outcome State Fault Refusal := .next (s.whole (fun s => s.taskExpires id))

/-- A loader's silence timer expires (R142). -/
def execSilenceTimerExpiry (n : Fin 8) (s : State) : Host.Outcome State Fault Refusal :=
  .next (s.whole (fun s => s.silenceExpires n.val))

/-- The second phase reaches 60: the minute count advances (R180). -/
def execYardMinute (s : State) : Host.Outcome State Fault Refusal :=
  .next (s.whole (fun s => if s.supply then { s with clock := s.clock.advance } else s))

/-- The plan in flight takes one step, if there is one (R102). -/
def State.planStep (s : State) : State :=
  match s.plan with
  | none => s
  | some p =>
    match s.truck? p.slot with
    | none => s
    | some t => s.pickStep p t

/-- One pick step. -/
def execPickStep (s : State) : Host.Outcome State Fault Refusal := .next (s.whole State.planStep)

/-- A Configuration Store write ends (R187). -/
def execConfigWriteEnd (s : State) : Host.Outcome State Fault Refusal := .next (s.whole State.endConfigWrite)

/-- The write of the head of the write list begins (R187). -/
def execWriteOfHeadBegins (s : State) : Host.Outcome State Fault Refusal := .next (s.whole State.beginConfigWrite)

/-- An image write of the Retained Store ends (R189). -/
def execRetainedWriteEnd (s : State) : Host.Outcome State Fault Refusal :=
  .next (s.whole (fun s => { s with retained := s.retained.endWrite }))

end Sys2Proof.Machine
end

