-- ==== Sys2Proof/Machine/Gate.lean ====
section
/-! DEFINITION. The gate's messages: ARRIVE, WEIGH, GONE, CANCEL, TRUCK_QUERY (chapters 5 and 9). -/
namespace Sys2Proof.Machine

-- ARRIVE (sections 5.1 and 5.2).

/-- The truck record an accepted ARRIVE writes (R75). -/
def newTruck (r : ArriveReq) (margin arrivalSeq : Nat) : Truck where
  visit := r.visit
  express := r.cls == 1
  promoted := false
  arrivalSeq := arrivalSeq
  waiting := 0
  tare := r.tare
  gross := r.gross
  budget := r.gross - r.tare - margin
  maxPacks := r.maxPacks
  partialOk := r.partialOk == 1
  lines := r.lines.map LineReq.toLine
  state := .waiting
  lane := none
  load := []
  lastSeq := 0
  est := 0
  flags := ⟨false, false, false, false, false⟩
  weigh := none

/-- The free truck slot with the lowest number (R75). -/
def State.freeSlotNumber (s : State) : Nat := Tab.firstFree s.trucks 0

/-- One ORPHANED pack attached to a re-entry truck (R78). -/
def State.attach (slot : Nat) (s : State) (pack : Nat) : State :=
  match s.pack? pack, s.truck? slot with
  | some p, some t =>
    let e := s.estimate p
    (s.setPack pack { p.moveTo .onTruck (.truck slot) with
      loadSeq := some (t.lastSeq + 1), reservation := some ⟨slot, none, none, e⟩ }).setTruck slot
        { t with load := t.load ++ [pack], lastSeq := t.lastSeq + 1, est := t.est + e }
  | _, _ => s

/-- The two fields a re-entry adjusts, and its flags (R54, R78). -/
def Truck.reenter (t : Truck) (attached : Nat) : Truck :=
  if attached = 0 then t
  else { t with
    budget := max t.budget t.est
    maxPacks := max t.maxPacks attached
    flags := { t.flags with reentry := true, budgetRaised := decide (t.budget < t.est) } }

/-- The arrival counter raised by 1, held at its limit (R75). -/
def State.nextArrival (s : State) : Nat := min Config.top32 (s.arrivals + 1)

/-- The record of an accepted ARRIVE written and its orphans attached (R75, R78). -/
def State.enterTruck (s : State) (slot : Nat) (r : ArriveReq) : State :=
  let orphans := s.orphansOf r.visit
  let s1 := State.setTruck { s with arrivals := s.nextArrival } slot (newTruck r s.margin s.nextArrival)
  (orphans.foldl (State.attach slot) s1).updateTruck slot (fun t => t.reenter orphans.length)

/-- A truck just written joins the Waiting Queue; admission is to be judged (R76, R79, R85). -/
def State.queueTruck (s : State) (slot : Nat) : State :=
  match s.truck? slot with
  | none => s
  | some t => (s.joinWaiting slot t).markAdmit

/-- The answer to an accepted ARRIVE (R76). -/
def State.arriveView (s : State) (slot attached : Nat) : ArriveView :=
  match s.truck? slot with
  | none => ⟨slot, .waiting, none, none, 0, attached, s.pins.gateHold⟩
  | some t => ⟨slot, t.state, t.lane, s.queuePosition slot, t.budget, attached, s.pins.gateHold⟩

/-- ARRIVE (R75 to R79). -/
def arrive (r : ArriveReq) : Act := fun s =>
  if ArriveReq.fieldsOk r = false then refuse .badField s
  else if ArriveReq.orderOk r = false then refuse .badOrder s
  else if r.gross ≤ r.tare + s.margin then refuse .noPayload s
  else if (s.findVisit r.visit).isSome then refuse .duplicateVisit s
  else if Config.slotCount ≤ s.trucks.length then refuse .slotsFull s
  else
    let slot := s.freeSlotNumber
    ((s.enterTruck slot r).queueTruck slot, fun left => .arrived (left.arriveView slot (s.orphansOf r.visit).length))

-- WEIGH (sections 9.1 and 9.2).

/-- The frozen estimate of a pack's reservation. -/
def State.frozen (s : State) (pack : Nat) : Nat := (((s.pack? pack).bind (·.reservation)).map (·.frozen)).getD 0

/-- The unload set of a load taken from its top: packs until their frozen estimates cover the excess, or the whole load (R156). -/
def State.unloadSet (s : State) (x : Nat) : List Nat → Nat → List Nat
  | [], _ => []
  | p :: below, sum =>
    if x ≤ sum + s.frozen p then [p] else p :: s.unloadSet x below (sum + s.frozen p)

/-- A truck released: its lane is freed and its shipment record written (R155, R163). -/
def State.releaseTruck (s : State) (slot : Nat) (t : Truck) (w : WeighResult) : State :=
  ((s.setTruck slot { t with state := .released, lane := none, weigh := some w }).markAdmit).logShipment
    (s.shipmentOf t false (some w.gm) (some w.e))

/-- A truck sent to unload a set of packs (R156). -/
def State.unloadTruck (s : State) (slot : Nat) (t : Truck) (w : WeighResult) (set : List Nat) : State :=
  ((s.setTruck slot { t with
    state := .unloading, partialOk := true, weigh := some w
    flags := { t.flags with overweightCut := true } }).listReturns slot set).raise .truckOverweight

/-- An overweight truck with an empty load marked (R158). -/
def State.markTare (s : State) (slot : Nat) (t : Truck) (w : WeighResult) : State :=
  (s.setTruck slot { t with weigh := some w, flags := { t.flags with tareSuspect := true } }).raise .truckOverweight

/-- WEIGH (R154 to R158). -/
def weigh (visit gm : Nat) : Act := fun s =>
  if validTag visit = false ∨ gm < 1 ∨ 80000 < gm then refuse .badField s
  else
    match s.findVisit visit with
    | none => refuse .noSuchTruck s
    | some (slot, t) =>
      if t.state ≠ .loaded then (s, fun _ => .notLoaded t.state)
      else
        let e := estimationError gm t.tare t.est
        if gm ≤ t.gross then (s.releaseTruck slot t ⟨gm, e⟩, fun _ => .weighed ⟨false, gm, e, 0, 0, .released⟩)
        else
          let x := gm - t.gross
          if t.load.isEmpty then (s.markTare slot t ⟨gm, e⟩, fun _ => .weighed ⟨true, gm, e, x, 0, .loaded⟩)
          else
            let set := s.unloadSet x t.load.reverse 0
            (s.unloadTruck slot t ⟨gm, e⟩ set, fun _ => .weighed ⟨true, gm, e, x, set.length, .unloading⟩)

-- Tasks withdrawn from a truck (R91, R161).

/-- A truck's tasks not yet LIFTED, of the kinds a test selects, in creation order. -/
def State.waitingTasks (s : State) (slot : Nat) (kinds : TaskKind → Bool) : List Task :=
  s.tasks.filter (fun t => t.truck == some slot && kinds t.kind && !(t.state == .lifted))

/-- A task is removed; a FETCH's pack has its reservation released (R91, R161). -/
def State.withdraw (s : State) (t : Task) : State :=
  let s' := s.leavePool t .removed
  if t.kind = .fetch then s'.release (t.pack.getD 0) else s'

-- GONE (section 9.3).

/-- A truck's load stack removed from the Pack Table, bottom first (R160, R161). -/
def State.shipLoad (s : State) (load : List Nat) : State := load.foldl State.erasePack s

/-- A GONE for a RELEASED truck (R160). -/
def State.depart (s : State) (slot : Nat) (t : Truck) : State := (s.shipLoad t.load).freeSlot slot

/-- The picks of a plan for a slot are released (R161 step 1, R109). -/
def State.releasePicks (s : State) (slot : Nat) : State :=
  if s.planInFlight slot then (s.picks.map (·.pack)).foldl State.release s else s

/-- What a departing truck's LIFTED tasks keep of it ends: a FETCH's reservation is released, a RETURN's kept reservation discarded
(R161 step 4). -/
def State.letGo (s : State) (t : Task) : State :=
  match t.kind with
  | .fetch => s.release (t.pack.getD 0)
  | .ret => s.updateTask t.id (fun u => { u with kept := none })
  | .put | .dig | .survey => s

/-- Everything of a departing truck but its record and its load is withdrawn (R161 steps 1 to 4). -/
def State.stripTruck (s : State) (slot : Nat) : State :=
  let s1 := s.releasePicks slot
  let s2 := (s1.waitingTasks slot (fun k => k == .fetch || k == .dig || k == .ret)).foldl State.withdraw s1
  let s3 := { s2 with returns := s2.returns.filter (fun r => !(r.slot == slot)) }
  (s3.tasks.filter (fun t => t.truck == some slot && t.state == .lifted)).foldl State.letGo s3

/-- The record an underrun writes (R161 step 5, R163). -/
def State.logUnderrun (s : State) (t : Truck) : State :=
  if t.state = .waiting ∧ t.load.isEmpty then s else s.logShipment (s.shipmentOf t true none none)

/-- A GONE for a truck that is not RELEASED (R161). -/
def State.underrun (s : State) (slot : Nat) : State :=
  let s1 := s.stripTruck slot
  match s1.truck? slot with
  | none => s1
  | some t => (((s1.logUnderrun t).shipLoad t.load).freeSlot slot).raise .truckUnderrun

/-- The entry of an orphan in a shipment record (R162). -/
def State.orphanEntry (s : State) (pack : Nat) : List ShipEntry :=
  match s.pack? pack with
  | none => []
  | some p => [⟨p.tag, none, none⟩]

/-- The shipment record of a GONE for orphans (R162): UNDERRUN set, REENTRY clear. There is no truck to copy OVERWEIGHT_CUT, TARE_SUSPECT
and BUDGET_RAISED from (R163), and the manual gives none of the three here: the model makes them no, a DESIGN CHOICE (log 50). -/
def State.orphanShipment (s : State) (visit : Nat) : Shipment where
  visit := visit
  minute := s.clock.minute
  gm := none
  tare := 0
  est := 0
  e := none
  flags := ⟨true, false, false, false, false⟩
  entries := (s.orphansOf visit).flatMap s.orphanEntry

/-- A GONE for ORPHANED packs (R162). -/
def State.shipOrphans (s : State) (visit : Nat) : State :=
  ((s.logShipment (s.orphanShipment visit)).shipLoad (s.orphansOf visit)).raise .truckUnderrun

/-- GONE (R159 to R162). -/
def gone (visit : Nat) : Act := fun s =>
  if validTag visit = false then refuse .badField s
  else
    match s.findVisit visit with
    | some (slot, t) =>
      if t.state = .released then (s.depart slot t, fun _ => .gone (some slot) t.load.length false)
      else (s.underrun slot, fun _ => .gone (some slot) t.load.length (!(t.state == .waiting && t.load.isEmpty)))
    | none =>
      if (s.orphansOf visit).isEmpty then refuse .noSuchTruck s
      else (s.shipOrphans visit, fun _ => .gone none (s.orphansOf visit).length true)

-- CANCEL (section 5.7).

/-- A pack of a WAITING re-entry truck becomes ORPHANED again (R90). -/
def State.orphan (s : State) (pack : Nat) : State :=
  { s with packs := Tab.modify s.packs pack (fun p => { p.moveTo .orphaned .none with reservation := none }) }

/-- A CANCEL of a WAITING truck (R90). -/
def State.cancelWaiting (s : State) (slot : Nat) (t : Truck) : State := (t.load.foldl State.orphan s).freeSlot slot

/-- A plan for a slot is to be aborted at its next pick step (R109). -/
def State.abortNext (s : State) (slot : Nat) : State :=
  match s.plan with
  | none => s
  | some p => if p.slot = slot then { s with plan := some { p with abort := true } } else s

/-- A CANCEL of a truck at a lane (R91). -/
def State.cancelAtLane (s : State) (slot : Nat) : State :=
  let s1 := { s.updateTruck slot (fun t => { t with state := .cancelling }) with planQueue := takeOut slot s.planQueue }
  let s2 := s1.abortNext slot
  ((s2.waitingTasks slot (fun k => k == .fetch || k == .dig)).foldl State.withdraw s2).markWatch

/-- CANCEL (R89 to R93). -/
def cancel (visit : Nat) : Act := fun s =>
  if validTag visit = false then refuse .badField s
  else
    match s.findVisit visit with
    | none => refuse .noSuchTruck s
    | some (slot, t) =>
      match t.state with
      | .released => refuse .wrongState s
      | .cancelling => (s, fun _ => .cancelled slot (some .cancelling) t.load.length)
      | .waiting => (s.cancelWaiting slot t, fun _ => .cancelled slot none 0)
      | .admitted | .planned | .loading | .stockWait | .loaded | .unloading =>
        (s.cancelAtLane slot, fun left => .cancelled slot ((left.truck? slot).map (·.state)) t.load.length)

-- TRUCK_QUERY (R95).

/-- TRUCK_QUERY: selector 0 BY_VISIT, 1 BY_SLOT (R95, R172). -/
def truckQuery (selector value : Nat) : Act := fun s =>
  if selector = 0 then
    if validTag value = false then refuse .badField s
    else
      match s.findVisit value with
      | none => refuse .noSuchTruck s
      | some (slot, t) => (s, fun left => .truck (left.truckView slot t))
  else if selector = 1 then
    if Config.slotCount ≤ value then refuse .badField s
    else
      match s.truck? value with
      | none => refuse .noSuchTruck s
      | some t => (s, fun left => .truck (left.truckView value t))
  else refuse .badField s

-- The commands.

/-- ARRIVE, 12 + 10 × n body bytes. -/
def execArrive (p : Port) (len : Nat) (r : ArriveReq) (s : State) : Host.Outcome State Fault Refusal :=
  .next (s.request .arrive p len (12 + 10 * r.count) (arriveBody r) (arrive r))

/-- WEIGH, 8 body bytes. -/
def execWeigh (p : Port) (len visit gm : Nat) (s : State) : Host.Outcome State Fault Refusal :=
  .next (s.request .weigh p len 8 (be4 visit ++ be4 gm) (weigh visit gm))

/-- GONE, 4 body bytes. -/
def execGone (p : Port) (len visit : Nat) (s : State) : Host.Outcome State Fault Refusal :=
  .next (s.request .gone p len 4 (be4 visit) (gone visit))

/-- CANCEL, 4 body bytes. -/
def execCancel (p : Port) (len visit : Nat) (s : State) : Host.Outcome State Fault Refusal :=
  .next (s.request .cancel p len 4 (be4 visit) (cancel visit))

/-- TRUCK_QUERY, 5 body bytes. -/
def execTruckQuery (p : Port) (len selector value : Nat) (s : State) : Host.Outcome State Fault Refusal :=
  .next (s.request .truckQuery p len 5 (be1 selector ++ be4 value) (truckQuery selector value))

end Sys2Proof.Machine
end

