-- ==== Sys2Proof/Machine/Office.lean ====
section
/-! DEFINITION. The office's messages other than the settings (sections 1.4, 2.5, 2.6, 5.8, 8.6, 9.4, 10.7, 11.4), and the two that other
ports share: STATUS and EVENT_ACK. -/
namespace Sys2Proof.Machine

/-- STATUS (R173). -/
def status : Act := fun s => (s, fun left => .status left.statusView)

/-- EVENT_ACK (R176). -/
def eventAck (set : FlagSet) : Act := fun s => (s.acknowledge set, fun left => .events left.flags)

-- Packs (section 1.4).

/-- A pack is on the move: a HOLD is refused with PACK_MOVING (R15). -/
def State.packMoving (s : State) (i : Nat) (p : Pack) : Bool :=
  match p.state with
  | .onLoader | .onTruck => true
  | .reserved =>
    match s.taskOf i with
    | none => false
    | some t => t.kind == .fetch && t.state == .issued
  | .inbound | .stored | .lost | .orphaned => false

/-- The hold of a pack written. -/
def State.setHold (s : State) (i : Nat) (hold : Bool) : State :=
  { s with packs := Tab.modify s.packs i (fun p => { p with hold := hold }) }

/-- The hold of a RESERVED pack: its FETCH is removed, its reservation ends as a loss (R16). -/
def State.withdrawHold (s : State) (i : Nat) : State := ((s.removeTaskOf i).setHold i true).lose i

/-- A pack's state, as an answer gives it. -/
def State.packState (s : State) (i : Nat) (p : Pack) : PackState := ((s.pack? i).map (·.state)).getD p.state

/-- HOLD (R15, R16). -/
def hold (tag : Nat) : Act := fun s =>
  if validTag tag = false then refuse .badField s
  else
    match s.findTag tag with
    | none => refuse .noSuchPack s
    | some (i, p) =>
      if s.packMoving i p then refuse .packMoving s
      else if p.state = .reserved then
        (s.withdrawHold i, fun left => .held (left.packState i p) (p.reservation.map (·.slot)))
      else (s.setHold i true, fun left => .held (left.packState i p) none)

/-- A hold cleared; a STORED pack that was held is passed on as new stock (R17). -/
def State.clearHold (s : State) (i : Nat) (p : Pack) : State :=
  if p.hold then (s.setHold i false).passOn i else s

/-- FREE (R17). -/
def free (tag : Nat) : Act := fun s =>
  if validTag tag = false then refuse .badField s
  else
    match s.findTag tag with
    | none => refuse .noSuchPack s
    | some (i, p) => (s.clearHold i p, fun left => .freed (left.packState i p))

/-- WRITE_OFF (R18). -/
def writeOff (tag : Nat) : Act := fun s =>
  if validTag tag = false then refuse .badField s
  else
    match s.findTag tag with
    | none => refuse .noSuchPack s
    | some (i, p) =>
      if p.state = .lost ∨ p.state = .orphaned then (s.erasePack i, fun _ => .only .ok) else refuse .wrongState s

/-- The record PACK_DEFINE writes (R19). -/
def Pack.define (p : Pack) (r : PackReq) : Pack :=
  { p with attrs := r.attrs, pieces := r.pieces, volume := r.volume, measured := PackReq.measured r, identified := true }

/-- PACK_DEFINE (R19). -/
def packDefine (r : PackReq) : Act := fun s =>
  if validTag r.tag = false ∨ PackReq.fieldsOk r = false then refuse .badField s
  else
    match s.findTag r.tag with
    | none => refuse .noSuchPack s
    | some (i, p) =>
      match p.state with
      | .reserved | .onLoader | .onTruck => refuse .wrongState s
      | .inbound | .stored | .lost | .orphaned => ((s.setPack i (p.define r)).passOn i, fun _ => .only .ok)

/-- PACK_QUERY: selector 0 BY_TAG, 1 FROM_INDEX (R20, R172). -/
def packQuery (selector value : Nat) : Act := fun s =>
  if selector = 0 then
    if validTag value = false then refuse .badField s
    else
      match s.findTag value with
      | none => refuse .noSuchPack s
      | some (i, p) => (s, fun left => .pack (left.packView i p))
  else if selector = 1 then
    if Config.packCount ≤ value then refuse .badField s
    else
      match s.packs.find? (fun e => decide (value ≤ e.1)) with
      | none => refuse .noSuchPack s
      | some (i, p) => (s, fun left => .pack (left.packView i p))
  else refuse .badField s

/-- STACK_QUERY (R42). -/
def stackQuery (id : Nat) : Act := fun s =>
  if Config.stackCount ≤ id then refuse .noSuchStack s else (s, fun left => .stack (left.stackView id))

-- Trucks and loaders.

/-- Accept partial set on a truck, and evaluation where it applies (R94). -/
def State.allowPartial (s : State) (slot : Nat) (t : Truck) : State :=
  if t.partialOk then s else (s.setTruck slot { t with partialOk := true }).evaluate slot

/-- PARTIAL (R94). -/
def acceptPartial (visit : Nat) : Act := fun s =>
  if validTag visit = false then refuse .badField s
  else
    match s.findVisit visit with
    | none => refuse .noSuchTruck s
    | some (slot, t) =>
      if t.state = .cancelling ∨ t.state = .released then refuse .wrongState s
      else
        (s.allowPartial slot t, fun left => .acceptPartial (((left.truck? slot).map (·.state)).getD t.state))

/-- LOADER_MODE (R149, R150). -/
def loaderMode (n mode : Nat) : Act := fun s =>
  match OfficeMode.ofByte mode with
  | none => refuse .badField s
  | some m =>
    if Config.loaderCount ≤ n then refuse .badField s
    else
      let done := s.setMode n m
      (done.1, fun left => .loaderMode (left.loader n).mode (left.effective n) done.2)

-- Stocktake (section 2.5).

/-- A scope is in range (R39). -/
def scopeOk : Scope → Bool
  | .zone z => decide (z ≤ 7)
  | .all => true

/-- A stack is in a stocktake's scope: its bay is enabled and, for a zone, in it (R39). -/
def State.inScope (s : State) (scope : Scope) (id : Nat) : Bool :=
  s.bayEnabled (bayOf id) &&
    match scope with
    | .all => true
    | .zone z => s.stackZone id == z

/-- The stacks in a stocktake's scope. -/
def State.scopeStacks (s : State) (scope : Scope) : List Nat := (List.range Config.stackCount).filter (s.inScope scope)

/-- An accepted STOCKTAKE (R39, R40). -/
def State.beginStocktake (s : State) (scope : Scope) : State :=
  let stackMap := s.scopeStacks scope
  let s1 := { s with stocktake := { Stocktake.clear with active := true, scope := some scope, requested := stackMap.length } }
  (stackMap.foldl (fun s id => s.joinBacklog id .stocktake) s1).markTake

/-- STOCKTAKE (R39). -/
def stocktake (scope : Scope) : Act := fun s =>
  if scopeOk scope = false then refuse .badField s
  else if s.stocktake.active then refuse .busy s
  else (s.beginStocktake scope, fun left => .stocktake left.stocktake.requested)

/-- STOCKTAKE_QUERY (R41). -/
def stocktakeQuery : Act := fun s => (s, fun left => .stocktakeRecord left.stocktake)

-- Shipments, clock, weather, restart.

/-- SHIP_READ (R165). -/
def shipRead : Act := fun s =>
  match s.shipLog with
  | [] => refuse .empty s
  | r :: rest => ({ s with shipLog := rest }, fun left => .shipment r left.shipLog.length)

/-- CLOCK_SET (R181). -/
def clockSet (minute : Minute) : Act := fun s =>
  ({ s with clock := ⟨minute, false, 0⟩ }, fun left => .clock left.clock.minute left.clock.stale)

/-- WET_LEVEL (R49). -/
def wetLevel (level : Nat) : Act := fun s =>
  if 3 < level then refuse .badField s else ({ s with wet := level }, fun left => .wet left.wet)

/-- RESTART: the reset takes place when the answer has been sent (R191). -/
def restart (clear : Nat) : Act := fun s =>
  if 1 < clear then refuse .badField s
  else (s, fun _ => .restart (if clear = 1 then .officeRestartClear else .officeRestart))

-- The commands.

/-- STATUS, no body. -/
def execStatus (p : Port) (len : Nat) (s : State) : Host.Outcome State Fault Refusal :=
  .next (s.request .status p len 0 [] status)

/-- EVENT_ACK, 2 body bytes. -/
def execEventAck (p : Port) (len : Nat) (set : FlagSet) (s : State) : Host.Outcome State Fault Refusal :=
  .next (s.request .eventAck p len 2 (be2 set.toNat) (eventAck set))

/-- HOLD, 4 body bytes. -/
def execHold (p : Port) (len tag : Nat) (s : State) : Host.Outcome State Fault Refusal :=
  .next (s.request .hold p len 4 (be4 tag) (hold tag))

/-- FREE, 4 body bytes. -/
def execFree (p : Port) (len tag : Nat) (s : State) : Host.Outcome State Fault Refusal :=
  .next (s.request .free p len 4 (be4 tag) (free tag))

/-- WRITE_OFF, 4 body bytes. -/
def execWriteOff (p : Port) (len tag : Nat) (s : State) : Host.Outcome State Fault Refusal :=
  .next (s.request .writeOff p len 4 (be4 tag) (writeOff tag))

/-- PACK_DEFINE, 14 body bytes. -/
def execPackDefine (p : Port) (len : Nat) (r : PackReq) (s : State) : Host.Outcome State Fault Refusal :=
  .next (s.request .packDefine p len 14 (packBody r) (packDefine r))

/-- PACK_QUERY, 5 body bytes. -/
def execPackQuery (p : Port) (len selector value : Nat) (s : State) : Host.Outcome State Fault Refusal :=
  .next (s.request .packQuery p len 5 (be1 selector ++ be4 value) (packQuery selector value))

/-- STACK_QUERY, 2 body bytes. -/
def execStackQuery (p : Port) (len id : Nat) (s : State) : Host.Outcome State Fault Refusal :=
  .next (s.request .stackQuery p len 2 (be2 id) (stackQuery id))

/-- PARTIAL, 4 body bytes. -/
def execAcceptPartial (p : Port) (len visit : Nat) (s : State) : Host.Outcome State Fault Refusal :=
  .next (s.request .acceptPartial p len 4 (be4 visit) (acceptPartial visit))

/-- LOADER_MODE, 2 body bytes. -/
def execLoaderMode (p : Port) (len n mode : Nat) (s : State) : Host.Outcome State Fault Refusal :=
  .next (s.request .loaderMode p len 2 (be1 n ++ be1 mode) (loaderMode n mode))

/-- STOCKTAKE, 1 body byte. -/
def execStocktake (p : Port) (len : Nat) (scope : Scope) (s : State) : Host.Outcome State Fault Refusal :=
  .next (s.request .stocktake p len 1 (scopeBody scope) (stocktake scope))

/-- STOCKTAKE_QUERY, no body. -/
def execStocktakeQuery (p : Port) (len : Nat) (s : State) : Host.Outcome State Fault Refusal :=
  .next (s.request .stocktakeQuery p len 0 [] stocktakeQuery)

/-- SHIP_READ, no body. -/
def execShipRead (p : Port) (len : Nat) (s : State) : Host.Outcome State Fault Refusal :=
  .next (s.request .shipRead p len 0 [] shipRead)

/-- CLOCK_SET, 4 body bytes. -/
def execClockSet (p : Port) (len : Nat) (minute : Minute) (s : State) : Host.Outcome State Fault Refusal :=
  .next (s.request .clockSet p len 4 (be4 minute.toNat) (clockSet minute))

/-- WET_LEVEL, 1 body byte. -/
def execWetLevel (p : Port) (len level : Nat) (s : State) : Host.Outcome State Fault Refusal :=
  .next (s.request .wetLevel p len 1 (be1 level) (wetLevel level))

/-- RESTART, 1 body byte. -/
def execRestart (p : Port) (len clear : Nat) (s : State) : Host.Outcome State Fault Refusal :=
  .next (s.request .restart p len 1 (be1 clear) (restart clear))

end Sys2Proof.Machine
end

