-- ==== Sys2Proof/Machine/Loaders.lean ====
section
/-! DEFINITION. The loaders' messages: HELLO, NEXT, LIFT, PLACE, PUT_BACK, FAIL (chapter 7, R152). -/
namespace Sys2Proof.Machine

/-- HELLO (R152). -/
def hello (n : Nat) : Act := fun s => (s, fun left => .hello (left.helloView n))

-- NEXT (section 7.4).

/-- A current task as NEXT answers it: HOLD_PACK for a LIFTED task without a destination, OK otherwise (R128, R129). -/
def State.currentAnswer (s : State) (id : Nat) : Answer :=
  match s.task? id with
  | none => .only .noTask
  | some t =>
    .task (if t.state = .lifted ∧ t.dest = .unresolved then .holdPack else .ok) (s.taskView t)

/-- The search of a loader that may be given work, and the issue of what it finds (R128 step 5). -/
def findWork (n : Nat) : Act := fun s =>
  let found := State.searchTasks (s.queuedOf n) s
  match found.2 with
  | none => (found.1, fun _ => .only .noTask)
  | some id => (found.1.issue n id, fun left => left.currentAnswer id)

/-- NEXT (R128). -/
def next (n : Nat) : Act := fun s =>
  match (s.loader n).current with
  | some id => (s, fun left => left.currentAnswer id)
  | none => if s.effective n = .stopped then refuse .stopped s else findWork n s

-- LIFT (section 7.6).

/-- The answer to a LIFT that was taken, given again as then (R131). -/
def State.liftAnswer (s : State) (id : Nat) : Answer :=
  .target .ok id (((s.task? id).bind (·.liftTarget)).getD ⟨.absent, 0⟩)

/-- A LIFT with another tag: the task fails (R132). -/
def State.mismatch (s : State) (t : Task) (tag : Nat) : State :=
  let s1 := s.failPack t
  let s2 := if t.source = .deck then s1.toDeckHead tag else s1
  s2.leavePool t (.failed .lift (.only .mismatch))

/-- LIFT (R130 to R132). -/
def lift (n id tag : Nat) : Act := fun s =>
  if validTag tag = false then refuse .badField s
  else
    match s.naming n id .lift with
    | .answered a => (s, fun _ => a)
    | .current t =>
      if t.kind = .survey then refuse .wrongState s
      else if t.state = .lifted then
        if s.tagOf t = some tag then (s, fun left => left.liftAnswer id) else refuse .wrongState s
      else if s.tagOf t = some tag then (s.takeLift n t, fun left => left.liftAnswer id)
      else (s.mismatch t tag, fun _ => .only .mismatch)

-- PLACE (section 7.7).

/-- A REDIRECT answer: the task's destination and its expected tier as they stand (R133, R134). -/
def State.redirect (s : State) (id : Nat) : Answer :=
  match s.task? id with
  | none => .only .redirect
  | some t => .target .redirect id (s.target t)

/-- A FETCH whose truck has gone is converted at its PLACE and asks for a stack (R134). -/
def convertAtPlace (t : Task) (lane : Nat) : Act := fun s =>
  let s1 := s.convert t lane
  match s1.select ⟨.ret, t.pack.getD 0, .lane lane, true⟩ with
  | some stack => (s1.resolveTo t.id stack, fun left => left.redirect t.id)
  | none => (s1.raise .noSpace, fun _ => .only .holdPack)

/-- The placement of a task at its destination stack (R135). -/
def State.placeAtStack (s : State) (t : Task) (stack : Nat) : State :=
  ((s.placeOnStack t stack).leavePool t (.done .place (.only .ok))).passOn (t.pack.getD 0)

/-- The placement of a FETCH at its lane (R136). -/
def State.placeAtLane (s : State) (t : Task) (slot : Nat) : State :=
  (s.placeOnTruck t slot).leavePool t (.done .place (.only .ok))

/-- The placement of a task whose destination a PLACE names (R133 step 5). -/
def State.placement (s : State) (t : Task) (p : Place) : State :=
  match p, t.truck with
  | .stack id, _ => s.placeAtStack t id
  | .lane _, some slot => s.placeAtLane t slot
  | .lane _, none => s

/-- A PLACE of the current task in LIFTED (R133). -/
def placeLifted (t : Task) (p : Place) : Act := fun s =>
  match t.kind, t.truck, t.dest with
  | .fetch, none, .lane lane => convertAtPlace t lane s
  | _, _, .unresolved => refuse .holdPack s
  | _, _, d =>
    if t.converted ∧ t.source.places = [p] then (s, fun left => left.redirect t.id)
    else if d.places ≠ [p] then refuse .badField s
    else (s.placement t p, fun _ => .only .ok)

/-- PLACE (R133 to R136). -/
def place (n id kind number : Nat) : Act := fun s =>
  match placeOf kind number with
  | none => refuse .badField s
  | some p =>
    match s.naming n id .place with
    | .answered a => (s, fun _ => a)
    | .current t => if t.state = .lifted then placeLifted t p s else refuse .wrongState s

-- PUT_BACK and FAIL (section 7.8).

/-- PUT_BACK (R137). -/
def putBack (n id : Nat) : Act := fun s =>
  match s.naming n id .putBack with
  | .answered a => (s, fun _ => a)
  | .current t =>
    if t.state = .lifted ∧ t.mayPutBack = true then (s.takeBack n t, fun _ => .only .ok) else refuse .wrongState s

/-- A NOT_FOUND: the task fails (R138). -/
def State.notFound (s : State) (t : Task) : State := (s.failPack t).leavePool t (.failed .fail (.only .ok))

/-- FAIL: reason 0 BLOCKED, 1 NOT_FOUND (R138, R172). -/
def fail (n id reason : Nat) : Act := fun s =>
  if 1 < reason then refuse .badField s
  else
    match s.naming n id .fail with
    | .answered a => (s, fun _ => a)
    | .current t =>
      if reason = 1 ∧ t.kind = .survey then refuse .badField s
      else if t.state = .lifted then refuse .wrongState s
      else if reason = 0 then (s.requeue n t .fail, fun _ => .only .ok)
      else (s.notFound t, fun _ => .only .ok)

-- The commands.

/-- The loader a port belongs to; the link has refused every other port before it is asked for. -/
def loaderNum (p : Port) : Nat := (loaderOf p).getD 0

/-- HELLO, no body. -/
def execHello (p : Port) (len : Nat) (s : State) : Host.Outcome State Fault Refusal :=
  .next (s.request .hello p len 0 [] (hello (loaderNum p)))

/-- NEXT, no body. -/
def execNext (p : Port) (len : Nat) (s : State) : Host.Outcome State Fault Refusal :=
  .next (s.request .next p len 0 [] (next (loaderNum p)))

/-- LIFT, 6 body bytes. -/
def execLift (p : Port) (len id tag : Nat) (s : State) : Host.Outcome State Fault Refusal :=
  .next (s.request .lift p len 6 (be2 id ++ be4 tag) (lift (loaderNum p) id tag))

/-- PLACE, 5 body bytes. -/
def execPlace (p : Port) (len id kind number : Nat) (s : State) : Host.Outcome State Fault Refusal :=
  .next (s.request .place p len 5 (be2 id ++ be1 kind ++ be2 number) (place (loaderNum p) id kind number))

/-- PUT_BACK, 2 body bytes. -/
def execPutBack (p : Port) (len id : Nat) (s : State) : Host.Outcome State Fault Refusal :=
  .next (s.request .putBack p len 2 (be2 id) (putBack (loaderNum p) id))

/-- FAIL, 3 body bytes. -/
def execFail (p : Port) (len id reason : Nat) (s : State) : Host.Outcome State Fault Refusal :=
  .next (s.request .fail p len 3 (be2 id ++ be1 reason) (fail (loaderNum p) id reason))

end Sys2Proof.Machine
end

