-- ==== Sys2Proof/Machine/Survey.lean ====
section
/-! DEFINITION. The survey report (section 2.4). -/
namespace Sys2Proof.Machine

/-- The record a survey creates for an unknown tag (R1). -/
def surveyPack (tag stack : Nat) (minute : Minute) : Pack where
  tag := tag
  attrs := ⟨0, 0, 0, 0, 0, 0, 0⟩
  pieces := 1
  volume := 1
  measured := none
  talliedAt := minute
  storedAt := none
  state := .stored
  loc := .stack stack
  hold := true
  identified := false
  reservation := none
  visit := none
  loadSeq := none

/-- The list of a report is in range: 0 to 7 tags, each a tag, none twice (R32 check 2). -/
def reportOk (count : Nat) (tags : List Nat) : Bool :=
  decide (tags.length ≤ 7) && decide (count = tags.length) && tags.all validTag && noRepeats tags

/-- A tag is held by a pack in state ON_TRUCK (R32 check 3). -/
def State.tagOnTruck (s : State) (tag : Nat) : Bool :=
  match s.findTag tag with
  | none => false
  | some (_, p) => p.state == .onTruck

/-- What the carrying out of a report has reached: the new list, the packs moved, and the counts (R33, R35). -/
structure Report where
  list : List Nat
  moved : List Nat
  counts : SurveyCounts
deriving DecidableEq, Repr

/-- The place a pack taken in was recorded in is cleared (R33, R34). -/
def State.clearPlace (s : State) (i : Nat) (p : Pack) : State :=
  match p.state, p.loc with
  | .inbound, _ => s.offDeck i
  | .stored, .stack other => ((s.pullStack other i).makeSuspect other).markSpace
  | .reserved, .stack other => ((s.pullStack other i).makeSuspect other).markSpace
  | _, _ => s

/-- A pack taken into the surveyed stack from elsewhere: its old place cleared, its task removed, its reservation lost, its visit number
and load sequence cleared (R33, R34). -/
def State.takeIn (s : State) (stack i : Nat) (p : Pack) : State :=
  let s1 := (((s.clearPlace i p).removeTaskOf i).lose i)
  { s1 with packs := Tab.modify s1.packs i (fun q =>
      { q.moveTo .stored (.stack stack) with visit := none, loadSeq := none }) }

/-- One reported tag carried out (R33). -/
def reportTag (stack : Nat) (acc : State × Report) (tag : Nat) : State × Report :=
  let (s, r) := acc
  match s.findTag tag with
  | none =>
    let i := s.freePack
    (s.setPack i (surveyPack tag stack s.clock.minute),
      { r with list := r.list ++ [i], counts := { r.counts with created := r.counts.created + 1 } })
  | some (i, p) =>
    if (s.stack stack).list.contains i then
      (s, { r with list := r.list ++ [i], counts := { r.counts with found := r.counts.found + 1 } })
    else
      (s.takeIn stack i p,
        { list := r.list ++ [i], moved := r.moved ++ [i], counts := { r.counts with moved := r.counts.moved + 1 } })

/-- A pack of the surveyed stack that was not reported (R35). -/
def State.dropLost (s : State) (i : Nat) : State := ((s.removeTaskOf i).lose i).makeLost i

/-- The surveyed stack rewritten; its suspect flag cleared and its Backlog entry removed, a clearing or a lower height being a space
event (R33, R37). -/
def State.rewriteStack (s : State) (stack : Nat) (list : List Nat) : State :=
  let was := s.stack stack
  let s1 := (s.setStack stack ⟨list, false⟩).leaveBacklog stack
  if was.suspect ∨ list.length < was.list.length then s1.markSpace else s1

/-- A sum of the stocktake record, held at 4,096 (Table 2-4). -/
def tally (a b : Nat) : Nat := min Config.stocktakeTop (a + b)

/-- The counts of a STOCKTAKE survey added to the record (R40). -/
def State.countStocktake (s : State) (reason : Option Reason) (c : SurveyCounts) : State :=
  if reason = some .stocktake then
    { s with stocktake := { s.stocktake with
        surveyed := s.stocktake.surveyed + 1
        found := tally s.stocktake.found c.found
        moved := tally s.stocktake.moved c.moved
        lost := tally s.stocktake.lost c.lost
        created := tally s.stocktake.created c.created } }
  else s

/-- An accepted report carried out (R33 to R38); the counts of its answer. The packs it moved are passed on as new stock last, after every
loss of the report and after the re-resolution of R38, in the reported order: the manual does not order them against the losses' replan
requests, so this is a DESIGN CHOICE (log 48). -/
def State.report (s : State) (t : Task) (stack : Nat) (tags : List Nat) : State × SurveyCounts :=
  let (s1, r) := tags.foldl (reportTag stack) (s, ⟨[], [], ⟨0, 0, 0, 0⟩⟩)
  let missing := (s.stack stack).list.filter (fun i => !(r.list.contains i))
  let counts := { r.counts with lost := missing.length }
  let s2 := missing.foldl State.dropLost s1
  let s3 := (s2.rewriteStack stack r.list).leavePool t (.done .surveyReport (.surveyed counts))
  let s4 := (s3.countStocktake t.reason counts).relieve stack
  (r.moved.foldl State.passOn s4, counts)

/-- SURVEY_REPORT (R32). -/
def surveyReport (n id count : Nat) (tags : List Nat) : Act := fun s =>
  match s.naming n id .surveyReport with
  | .answered a => (s, fun _ => a)
  | .current t =>
    match t.kind, t.state, t.source with
    | .survey, .issued, .stack stack =>
      if reportOk count tags = false then refuse .badField s
      else if tags.any s.tagOnTruck then refuse .packMoving s
      else if s.freePacks < tags.countP (fun tag => (s.findTag tag).isNone) then refuse .tableFull s
      else
        let done := s.report t stack tags
        (done.1, fun _ => .surveyed done.2)
    | _, _, _ => refuse .wrongState s

/-- SURVEY_REPORT, 3 + 4 × n body bytes. -/
def execSurveyReport (p : Port) (len id count : Nat) (tags : List Nat) (s : State) : Host.Outcome State Fault Refusal :=
  .next (s.request .surveyReport p len (3 + 4 * count) (surveyBody id count tags) (surveyReport (loaderNum p) id count tags))

end Sys2Proof.Machine
end

