-- ==== Sys2Proof/Machine/Tally.lean ====
section
/-! DEFINITION. The tally station's messages: PACK_IN, DECK_PULL, DECK_QUERY (chapter 4). -/
namespace Sys2Proof.Machine

/-- The record PACK_IN creates (R1). -/
def newPack (r : PackReq) (minute : Minute) : Pack where
  tag := r.tag
  attrs := r.attrs
  pieces := r.pieces
  volume := r.volume
  measured := PackReq.measured r
  talliedAt := minute
  storedAt := none
  state := .inbound
  loc := .deck
  hold := false
  identified := true
  reservation := none
  visit := none
  loadSeq := none

/-- A refusal of PACK_IN: the result and the deck count (R58). -/
def refuseDeck (r : Result) : Act := fun s => (s, fun left => .deckRefusal r left.deck.length)

/-- An accepted PACK_IN: the record, the deck's tail, MILL_HOLD, and the deck packs that want a PUT (R59). -/
def State.tally (s : State) (r : PackReq) : State :=
  State.markPuts (State.judgeMill
    { s.setPack s.freePack (newPack r s.clock.minute) with deck := s.deck ++ [s.freePack] })

/-- PACK_IN (R58, R59). -/
def packIn (r : PackReq) : Act := fun s =>
  if validTag r.tag = false ∨ PackReq.fieldsOk r = false then refuseDeck .badField s
  else if (s.findTag r.tag).isSome then refuseDeck .duplicateTag s
  else if Config.packCount ≤ s.packs.length then refuseDeck .tableFull s
  else if Config.deckSize ≤ s.occupancy then refuseDeck .deckFull (s.raise .deckRefused)
  else
    (s.tally r, fun left =>
      .packIn ⟨s.freePack, s.deck.length, s.deck.length + 1, (left.taskOf s.freePack).map (·.id)⟩)

/-- DECK_PULL of a pack of the deck: its task, its place and its record go (R63). -/
def State.pullDeck (s : State) (pack : Nat) : State := ((s.removeTaskOf pack).offDeck pack).erasePack pack

/-- The unfinished task of a pack is ISSUED. -/
def State.taskIssued (s : State) (pack : Nat) : Bool :=
  match s.taskOf pack with
  | none => false
  | some t => t.state == .issued

/-- DECK_PULL (R63). -/
def deckPull (tag : Nat) : Act := fun s =>
  if validTag tag = false then refuse .badField s
  else
    match s.findTag tag with
    | none => refuse .noSuchPack s
    | some (i, p) =>
      if p.state ≠ .inbound then refuse .noSuchPack s
      else if s.taskIssued i then refuse .packMoving s
      else (s.pullDeck i, fun left => .deckPulled left.deck.length)

/-- DECK_QUERY (R64). -/
def deckQuery : Act := fun s => (s, fun left => .deck left.deckView)

/-- PACK_IN, 14 body bytes. -/
def execPackIn (p : Port) (len : Nat) (r : PackReq) (s : State) : Host.Outcome State Fault Refusal :=
  .next (s.request .packIn p len 14 (packBody r) (packIn r))

/-- DECK_PULL, 4 body bytes. -/
def execDeckPull (p : Port) (len tag : Nat) (s : State) : Host.Outcome State Fault Refusal :=
  .next (s.request .deckPull p len 4 (be4 tag) (deckPull tag))

/-- DECK_QUERY, no body. -/
def execDeckQuery (p : Port) (len : Nat) (s : State) : Host.Outcome State Fault Refusal :=
  .next (s.request .deckQuery p len 0 [] deckQuery)

end Sys2Proof.Machine
end

