-- ==== Sys2Proof/Machine/Wire.lean ====
section
/-! DEFINITION. The bytes of the link (sections 10.1 and 10.3): the check, the command a received frame stands for, and the bytes of an
answer. The layouts R172 leaves to inference are in logs 41 and 42. -/
namespace Sys2Proof.Machine

-- Numbers of a body (R172).

/-- The byte at a place of a body. -/
def num1 (b : List Byte) (i : Nat) : Nat := (b.getD i 0#8).toNat
/-- The two-byte number at a place of a body. -/
def num2 (b : List Byte) (i : Nat) : Nat := num1 b i * 256 + num1 b (i + 1)
/-- The four-byte number at a place of a body. -/
def num4 (b : List Byte) (i : Nat) : Nat := num2 b i * 65536 + num2 b (i + 2)
/-- The bits of a byte from `lo` on, `n` of them. -/
def bitsAt (v lo n : Nat) : Nat := v / 2 ^ lo % 2 ^ n

-- Requests.

/-- The attribute block at a place of a body (Table 10-5). -/
def attrsAt (b : List Byte) (i : Nat) : Attrs where
  species := bitsAt (num1 b i) 4 4
  thickness := bitsAt (num1 b i) 0 4
  width := bitsAt (num1 b (i + 1)) 4 4
  length := bitsAt (num1 b (i + 1)) 0 4
  grade := bitsAt (num1 b (i + 2)) 5 3
  treatment := bitsAt (num1 b (i + 2)) 3 2
  moisture := bitsAt (num1 b (i + 2)) 1 2

/-- The body of PACK_IN and PACK_DEFINE (Table 10-5). -/
def packReqOf (b : List Byte) : PackReq where
  tag := num4 b 0
  attrs := attrsAt b 4
  reserved := bitsAt (num1 b 6) 0 1 == 1
  pieces := num2 b 7
  volume := num2 b 9
  hasWeight := num1 b 11
  weight := num2 b 12

/-- The key at a place of a body (Table 10-6). -/
def keyAt (b : List Byte) (i : Nat) : KeyReq where
  anySpecies := bitsAt (num1 b i) 7 1 == 1
  anyThickness := bitsAt (num1 b i) 6 1 == 1
  anyWidth := bitsAt (num1 b i) 5 1 == 1
  anyTreatment := bitsAt (num1 b i) 4 1 == 1
  anyGrade := bitsAt (num1 b i) 3 1 == 1
  anyLength := bitsAt (num1 b i) 2 1 == 1
  anyMoisture := bitsAt (num1 b i) 1 1 == 1
  reserved := bitsAt (num1 b i) 0 1 == 1
  species := bitsAt (num1 b (i + 1)) 4 4
  thickness := bitsAt (num1 b (i + 1)) 0 4
  width := bitsAt (num1 b (i + 2)) 4 4
  lengthMin := bitsAt (num1 b (i + 2)) 0 4
  lengthMax := bitsAt (num1 b (i + 3)) 4 4
  treatment := bitsAt (num1 b (i + 3)) 2 2
  moisture := bitsAt (num1 b (i + 3)) 0 2

/-- The order line at a place of a body (Table 10-7). -/
def lineAt (b : List Byte) (i : Nat) : LineReq where
  want := num1 b i
  primaryGrade := bitsAt (num1 b (i + 1)) 5 3
  alternateGrade := bitsAt (num1 b (i + 1)) 2 3
  hasAlternate := bitsAt (num1 b (i + 1)) 1 1 == 1
  reserved := bitsAt (num1 b (i + 1)) 0 1 == 1
  primary := keyAt b (i + 2)
  alternate := keyAt b (i + 6)

/-- The body of ARRIVE (Table 10-7). -/
def arriveReqOf (b : List Byte) : ArriveReq where
  visit := num4 b 0
  cls := num1 b 4
  tare := num2 b 5
  gross := num2 b 7
  maxPacks := num1 b 9
  partialOk := num1 b 10
  count := num1 b 11
  lines := (List.range (num1 b 11)).map (fun n => lineAt b (12 + 10 * n))

/-- The scope a STOCKTAKE carries (R39, log 28). -/
def scopeOf (b : Byte) : Scope :=
  if b.toNat ≤ 7 then .zone b.toNat else if b = Config.scopeAllRequest then .all else .zone b.toNat

/-- The row of a CFG_SET by its kind byte; a byte outside Table 11-2 goes to the first (log 20). -/
def cfgRow (p : Port) (len kind index value : Nat) : Instr :=
  if kind ≤ 3 then .cfgSetBay p len kind index value
  else if kind ≤ 6 then .cfgSetZone p len kind index value
  else if kind = 7 then .cfgSetDensity p len index value
  else if kind = 8 then .cfgSetUplift p len index value
  else if kind = 9 then .cfgSetWetDwell p len index value
  else if kind = 10 then .cfgSetMargin p len index value
  else if kind ≤ 12 then .cfgSetMillMark p len kind index value
  else if kind ≤ 14 then .cfgSetGateMark p len kind index value
  else if kind = 15 then .cfgSetAgeLimit p len index value
  else if kind = 16 then .cfgSetLaneCount p len index value
  else if kind = 17 then .cfgSetLaneZone p len index value
  else if kind = 18 then .cfgSetMaxDigDepth p len index value
  else if kind = 19 then .cfgSetTaskTimeout p len index value
  else if kind = 20 then .cfgSetSilenceLimit p len index value
  else if kind = 21 then .cfgSetPortRate p len index value
  else if kind = 22 then .cfgSetRoute p len index value
  else .cfgSetBay p len kind index value

/-- The command a good frame's code, length and body stand for (Table 10-4, R172). -/
def messageCommand (p : Port) (code : Nat) (b : List Byte) : Instr :=
  let len := b.length
  match Msg.ofCode code with
  | none => .unknownMessage p code
  | some .status => .status p len
  | some .eventAck => .eventAck p len (BitVec.ofNat 16 (num2 b 0))
  | some .arrive => .arrive p len (arriveReqOf b)
  | some .weigh => .weigh p len (num4 b 0) (num4 b 4)
  | some .gone => .gone p len (num4 b 0)
  | some .cancel => .cancel p len (num4 b 0)
  | some .truckQuery => .truckQuery p len (num1 b 0) (num4 b 1)
  | some .packIn => .packIn p len (packReqOf b)
  | some .deckPull => .deckPull p len (num4 b 0)
  | some .deckQuery => .deckQuery p len
  | some .hello => .hello p len
  | some .next => .next p len
  | some .lift => .lift p len (num2 b 0) (num4 b 2)
  | some .place => .place p len (num2 b 0) (num1 b 2) (num2 b 3)
  | some .putBack => .putBack p len (num2 b 0)
  | some .fail => .fail p len (num2 b 0) (num1 b 2)
  | some .surveyReport =>
    .surveyReport p len (num2 b 0) (num1 b 2) ((List.range (num1 b 2)).map (fun n => num4 b (3 + 4 * n)))
  | some .cfgSet => cfgRow p len (num1 b 0) (num1 b 1) (num2 b 2)
  | some .cfgGet => .cfgGet p len (num1 b 0) (num1 b 1)
  | some .hold => .hold p len (num4 b 0)
  | some .free => .free p len (num4 b 0)
  | some .writeOff => .writeOff p len (num4 b 0)
  | some .packDefine => .packDefine p len (packReqOf b)
  | some .packQuery => .packQuery p len (num1 b 0) (num4 b 1)
  | some .stackQuery => .stackQuery p len (num2 b 0)
  | some .acceptPartial => .acceptPartial p len (num4 b 0)
  | some .loaderMode => .loaderMode p len (num1 b 0) (num1 b 1)
  | some .stocktake => .stocktake p len (scopeOf (b.getD 0 0#8))
  | some .stocktakeQuery => .stocktakeQuery p len
  | some .shipRead => .shipRead p len
  | some .clockSet => .clockSet p len (BitVec.ofNat 32 (num4 b 0))
  | some .wetLevel => .wetLevel p len (num1 b 0)
  | some .restart => .restart p len (num1 b 0)

/-- What the bytes in the receive buffer of a RECEIVING port bring about (R169): a length byte above 250 discards the frame at once; the
second check byte has the check judged, a wrong one discards the frame, a right one makes it a good frame, which is the command its code
and body stand for. Until then, nothing. -/
def frameCommand (p : Port) : List Byte → Option Instr
  | code :: len :: rest =>
    if 250 < len.toNat then some (.lengthByteDiscard p)
    else if rest.length ≠ len.toNat + 2 then none
    else if rest.drop len.toNat ≠ be2 (crc (code :: len :: rest.take len.toNat)).toNat then some (.badCheckDiscard p)
    else some (messageCommand p code.toNat (rest.take len.toNat))
  | _ => none

-- Answers: numbers of named values (R172).

/-- A result code (Table 10-3). -/
def Result.code : Result → Nat
  | .ok => 0x00
  | .unknownMessage => 0x01
  | .notOnThisPort => 0x02
  | .badLength => 0x03
  | .badField => 0x04
  | .starting => 0x05
  | .busy => 0x06
  | .deckFull => 0x07
  | .tableFull => 0x08
  | .duplicateTag => 0x09
  | .slotsFull => 0x0A
  | .duplicateVisit => 0x0B
  | .badOrder => 0x0C
  | .noPayload => 0x0D
  | .noSuchTruck => 0x0E
  | .noSuchPack => 0x0F
  | .noSuchStack => 0x10
  | .wrongState => 0x11
  | .notLoaded => 0x12
  | .noTask => 0x13
  | .stopped => 0x14
  | .offline => 0x15
  | .notYourTask => 0x16
  | .revoked => 0x17
  | .mismatch => 0x18
  | .redirect => 0x19
  | .holdPack => 0x1A
  | .packMoving => 0x1B
  | .bayOccupied => 0x1C
  | .empty => 0x1D

/-- R173's order. -/
def YardCond.num : YardCond → Nat
  | .starting => 0
  | .ready => 1

/-- R183's order. -/
def ResetCause.num : ResetCause → Nat
  | .powerOn => 0
  | .resetPin => 1
  | .officeRestart => 2
  | .officeRestartClear => 3

/-- The order of the table of R98 (log 41). -/
def EngineState.num : EngineState → Nat
  | .waitYard => 0
  | .planning => 1
  | .idle => 2
  | .waitPool => 3

/-- The order of the rows of R144's table (log 41). -/
def EffState.num : EffState → Nat
  | .offline => 0
  | .lost => 1
  | .stopped => 2
  | .active => 3

/-- R149's order. -/
def OfficeMode.num : OfficeMode → Nat
  | .inService => 0
  | .stopped => 1
  | .offline => 2

/-- Table 5-3's order. -/
def TruckState.num : TruckState → Nat
  | .waiting => 0
  | .admitted => 1
  | .planned => 2
  | .loading => 3
  | .stockWait => 4
  | .loaded => 5
  | .unloading => 6
  | .cancelling => 7
  | .released => 8

/-- Table 1-2's order. -/
def PackState.num : PackState → Nat
  | .inbound => 0
  | .stored => 1
  | .reserved => 2
  | .onLoader => 3
  | .onTruck => 4
  | .lost => 5
  | .orphaned => 6

/-- Table 10-8's numbering. -/
def TaskKind.num : TaskKind → Nat
  | .put => 0
  | .dig => 1
  | .fetch => 2
  | .ret => 3
  | .survey => 4

/-- Table 7-1's order. -/
def TaskState.num : TaskState → Nat
  | .queued => 0
  | .waitSpace => 1
  | .issued => 2
  | .lifted => 3

/-- R46's order. -/
def MatchKind.num : MatchKind → Nat
  | .primary => 0
  | .alternate => 1

/-- R95's order. -/
def Standing.num : Standing → Nat
  | .queued => 0
  | .inFlight => 1
  | .neither => 2

/-- Section 2.3's order. -/
def Reason.num : Reason → Nat
  | .suspect => 0
  | .stocktake => 1

/-- The code of the request that ended a task. -/
def TaskReq.code : TaskReq → Nat
  | .lift => 0x32
  | .place => 0x33
  | .putBack => 0x34
  | .fail => 0x35
  | .surveyReport => 0x36

-- Answers: the recurring formats.

/-- A key (Table 10-6). The value bits of a field whose ANY marker is set are not read; they are sent as 0, a DESIGN CHOICE (log 44). -/
def Key.bytes (k : Key) : List Byte :=
  be1 ((if k.species.isNone then 128 else 0) + (if k.thickness.isNone then 64 else 0) + (if k.width.isNone then 32 else 0) +
      (if k.treatment.isNone then 16 else 0)) ++
    be1 (k.species.getD 0 * 16 + k.thickness.getD 0) ++ be1 (k.width.getD 0 * 16 + k.lengthMin) ++
    be1 (k.lengthMax * 16 + k.treatment.getD 0 * 4 + k.moistureLimit)

/-- An order line with its filled count (Table 10-7). The grade bits and the key bytes of an absent alternate key are not read; they are
sent as 0, a DESIGN CHOICE (log 44). -/
def Line.bytes (l : Line) : List Byte :=
  be1 l.want ++
    be1 (l.primary.gradeLimit * 32 + ((l.alternate.map (·.gradeLimit)).getD 0) * 4 + (if l.alternate.isSome then 2 else 0)) ++
    l.primary.bytes ++ (match l.alternate with
      | none => be4 0
      | some k => k.bytes) ++ be1 l.filled

/-- A destination and its expected tier (Table 10-8, bytes 12 to 15). -/
def Target.bytes (t : Target) : List Byte :=
  match t.dest with
  | .stack id => be1 2 ++ be2 id ++ be1 t.tier
  | .lane n => be1 3 ++ be2 n ++ be1 t.tier
  | .unresolved | .absent => be4 0

/-- A source (Table 10-8, bytes 8 to 10). -/
def Source.bytes : Source → List Byte
  | .deck => be1 1 ++ be2 0
  | .stack id => be1 2 ++ be2 id
  | .lane n => be1 3 ++ be2 n

/-- A task answered to NEXT behind its result (Table 10-8). -/
def TaskView.bytes (v : TaskView) : List Byte :=
  be2 v.id ++ be1 v.kind.num ++ be4 (v.tag.getD 0) ++ v.source.bytes ++ be1 v.sourceTier ++ v.target.bytes

/-- A task's id, kind and state, or none (R172, log 41). -/
def markBytes (m : Option TaskMark) : List Byte :=
  match m with
  | none => be2 0 ++ be1 0 ++ be1 0
  | some m => be2 m.id ++ be1 m.kind.num ++ be1 m.state.num

/-- Five flags, one byte each (log 42). -/
def TruckFlags.bytes (f : TruckFlags) : List Byte :=
  beBool f.underrun ++ beBool f.overweightCut ++ beBool f.tareSuspect ++ beBool f.budgetRaised ++ beBool f.reentry

/-- A pack's location (section 10.3). -/
def locationBytes (state : PackState) (loc : Loc) (position : Nat) : List Byte :=
  match state, loc with
  | .inbound, _ => be1 position ++ be1 0 ++ be2 0
  | .stored, .stack id => be2 id ++ be1 position ++ be1 0
  | .reserved, .stack id => be2 id ++ be1 position ++ be1 0
  | .onLoader, .loader n => be1 n ++ be1 0 ++ be2 0
  | .onTruck, .truck slot => be1 slot ++ be1 position ++ be2 0
  | _, _ => be4 0

/-- A reservation (R6), an optional field; the bytes of an absent one are sent as 0, a DESIGN CHOICE (log 44). -/
def reservationBytes (r : Option Reservation) : List Byte :=
  match r with
  | none => be1 0 ++ be1 0 ++ be1 0 ++ be1 0 ++ be2 0
  | some r => be1 1 ++ be1 r.slot ++ orMark1 r.line ++ orMark1 (r.kind.map MatchKind.num) ++ be2 r.frozen

-- Answers: the bodies behind the result.

/-- STATUS (R173). -/
def StatusView.bytes (v : StatusView) : List Byte :=
  be1 v.cond.num ++ be1 v.cause.num ++ be2 v.flags.toNat ++ be4 v.minute.toNat ++ beBool v.stale ++ be1 v.engine.num ++
    be1 v.trucks ++ be1 v.waiting ++ be2 v.packs ++ be2 v.tasks ++ be1 v.deck ++ beBool v.gateHold ++ beBool v.millHold ++
    beBool v.ready ++ v.loaders.flatMap (fun e => be1 e.num)

/-- TRUCK_QUERY (R95). The bytes of an absent lane and of a weigh result before the first WEIGH are not read; they are sent as 0, a DESIGN
CHOICE (log 44). The count of unfinished tasks, which has no stated range, is sent in two bytes, a DESIGN CHOICE (log 52). -/
def TruckView.bytes (v : TruckView) : List Byte :=
  be4 v.truck.visit ++ beBool v.truck.express ++ beBool v.truck.promoted ++ be4 v.truck.arrivalSeq ++ be4 v.truck.waiting ++
    be2 v.truck.tare ++ be2 v.truck.gross ++ be4 v.truck.budget ++ be1 v.truck.maxPacks ++ beBool v.truck.partialOk ++
    beList Line.bytes v.truck.lines ++ be1 v.truck.state.num ++ opt1 v.truck.lane ++ be1 v.truck.lastSeq ++ be4 v.truck.est ++
    be1 v.shortfall ++ v.truck.flags.bytes ++
    (match v.truck.weigh with
      | none => be1 0 ++ be4 0 ++ be2 0
      | some w => be1 1 ++ be4 w.gm ++ beInt w.e) ++
    orMark1 v.position ++ be4 v.remaining ++ be1 v.outstanding ++ be1 v.loaded ++ be1 v.packCount ++ be2 v.tasks ++
    be1 v.standing.num ++
    beList (fun r => be2 r.pack ++ orMark1 r.line ++ orMark1 (r.kind.map MatchKind.num)) v.load ++ be1 v.returns

/-- One pack of the deck (R64). -/
def DeckRow.bytes (r : DeckRow) : List Byte :=
  be2 r.index ++ be4 r.tag ++ beBool r.hold ++ orTask (r.task.map (·.id)) ++ be1 ((r.task.map (·.state.num)).getD 0)

/-- A previous task (R152, log 42). With no previous task R152 and R172 give the id's two bytes alone, 0000h; the outcome's two bytes are
still sent, both 00h: a DESIGN CHOICE (log 54). -/
def previousBytes (p : Option PrevMark) : List Byte :=
  match p with
  | none => be2 0 ++ be1 0 ++ be1 0
  | some p =>
    be2 p.id ++ match p.ended with
      | none => be1 0 ++ be1 (Result.code .revoked)
      | some (r, a) => be1 r.code ++ be1 a.code

/-- The attributes of a pack in an answer (R20, R172): each of the seven is a number of one byte, in the order of Table 1-1. The attribute
block of Table 10-5 is in PACK_IN and PACK_DEFINE alone. -/
def Attrs.bytes (a : Attrs) : List Byte :=
  be1 a.species ++ be1 a.grade ++ be1 a.thickness ++ be1 a.width ++ be1 a.length ++ be1 a.treatment ++ be1 a.moisture

/-- PACK_QUERY (R20): the fields of Table 1-1 in its order, then the derived items. -/
def PackView.bytes (v : PackView) : List Byte :=
  be2 v.index ++ be4 v.pack.tag ++ Attrs.bytes v.pack.attrs ++ be2 v.pack.pieces ++ be2 v.pack.volume ++ opt2 v.pack.measured ++
    be4 v.pack.talliedAt.toNat ++ opt4 (v.pack.storedAt.map (·.toNat)) ++ be1 v.pack.state.num ++
    locationBytes v.pack.state v.pack.loc v.position ++ beBool v.pack.hold ++ beBool v.pack.identified ++
    reservationBytes v.pack.reservation ++ opt4 v.pack.visit ++ opt1 v.pack.loadSeq ++ beBool v.unrated ++ opt2 v.estimate ++
    markBytes v.task

/-- One pack of a stack (R42). -/
def StackRow.bytes (r : StackRow) : List Byte :=
  be2 r.index ++ be4 r.tag ++ be1 r.state.num ++ beBool r.hold ++ beBool r.identified ++ orMark1 r.slot

/-- STACK_QUERY (R42). The rule gives the count of unfinished tasks no range: it is sent in two bytes, the width of a number up to the
512 tasks of the pool, a DESIGN CHOICE (log 52). -/
def StackView.bytes (v : StackView) : List Byte :=
  be1 v.bay ++ be1 v.position ++ be1 v.zone ++ beBool v.enabled ++ be1 v.tierLimit ++ beBool v.covered ++ be1 v.height ++
    be1 v.pending ++ beBool v.suspect ++ orMark1 (v.backlog.map Reason.num) ++ orTask v.survey ++ be2 v.tasks ++
    beList StackRow.bytes v.packs

/-- A stocktake scope in an answer (R41, log 28). -/
def scopeByte : Option Scope → Byte
  | none => 0xFF#8
  | some .all => Config.scopeAllAnswer
  | some (.zone z) => BitVec.ofNat 8 z

/-- A shipment record (Table 9-1). The bytes of an absent Gm and of an absent E are not read; they are sent as 0, a DESIGN CHOICE
(log 44). -/
def Shipment.bytes (v : Shipment) : List Byte :=
  be4 v.visit ++ be4 v.minute.toNat ++ opt4 v.gm ++ be2 v.tare ++ be4 v.est ++
    (match v.e with
      | none => be1 0 ++ be2 0
      | some e => be1 1 ++ beInt e) ++
    v.flags.bytes ++ beList (fun e => be4 e.tag ++ orMark1 e.line ++ orMark1 (e.kind.map MatchKind.num)) v.entries

/-- The none of a CFG_GET value: 00FFh for a kind whose range fits one byte, FFFFh for the others, density, margin and task timeout (R186,
R188, Table 11-2). -/
def cfgNone (kind : Nat) : Nat := if kind = 7 ∨ kind = 10 ∨ kind = 19 then 0xFFFF else 0xFF

/-- The body of an answer behind its result byte. -/
def Answer.rest : Answer → List Byte
  | .only _ => []
  | .status v => v.bytes
  | .events f => be2 f.toNat
  | .arrived v =>
    be1 v.slot ++ be1 v.state.num ++ orMark1 v.lane ++ orMark1 v.position ++ be4 v.budget ++ be1 v.attached ++ beBool v.gateHold
  | .weighed v => beBool v.overweight ++ be4 v.gm ++ beInt v.e ++ be4 v.x ++ be1 v.unload ++ be1 v.state.num
  | .notLoaded st => be1 st.num
  | .gone slot shipped written => orMark1 slot ++ be1 shipped ++ beBool written
  | .cancelled slot st n => be1 slot ++ be1 (if st.isNone then 0 else 1) ++ be1 n
  | .truck v => v.bytes
  | .packIn v => be2 v.index ++ be1 v.position ++ be1 v.deckCount ++ orTask v.task
  | .deckRefusal _ n => be1 n
  | .deckPulled n => be1 n
  | .deck v => be1 v.count ++ be1 v.lifted ++ beBool v.millHold ++ be1 v.high ++ be1 v.low ++ beList DeckRow.bytes v.rows
  | .hello v =>
    be1 v.loader ++ be1 v.mode.num ++ be1 v.eff.num ++ be1 v.limit ++ markBytes v.current ++ previousBytes v.previous
  | .task _ v => v.bytes
  | .target _ id t => be2 id ++ t.bytes
  | .offline => be1 (EffState.num .offline) ++ be2 0
  | .surveyed c => be1 c.found ++ be1 c.moved ++ be1 c.lost ++ be1 c.created
  | .cfgSet k i w p => be1 k ++ be1 i ++ be2 w ++ beBool p
  | .cfgGet k w st p => be2 w ++ be2 st ++ be2 (p.getD (cfgNone k))
  | .held st slot => be1 st.num ++ orMark1 slot
  | .freed st => be1 st.num
  | .pack v => v.bytes
  | .stack v => v.bytes
  | .acceptPartial st => be1 st.num
  | .loaderMode m e n => be1 m.num ++ be1 e.num ++ be1 n
  | .stocktake n => be2 n
  | .stocktakeRecord v =>
    beBool v.active ++ [scopeByte v.scope] ++ be2 v.requested ++ be2 v.surveyed ++ be2 v.found ++ be2 v.moved ++ be2 v.lost ++
      be2 v.created
  | .shipment v left => v.bytes ++ be1 left
  | .clock m st => be4 m.toNat ++ beBool st
  | .wet l => be1 l
  | .restart c => be1 c.num

/-- The body of an answer: the result byte and what follows it (Table 10-2). -/
def Answer.body (a : Answer) : List Byte := be1 a.result.code ++ a.rest

/-- An answer frame's bytes (Table 10-2, R168). -/
def TxFrame.bytes (f : TxFrame) : List Byte :=
  let inner := be1 f.code ++ be1 f.answer.body.length ++ f.answer.body
  [0xA5#8] ++ inner ++ be2 (crc inner).toNat

end Sys2Proof.Machine
end

