-- ==== Sys2Proof/Machine/Dispatch.lean ====
section
/-! DEFINITION. The dispatch of a command to its meaning: one arm per row of spec/opcode_table.json, in the table's order. -/
namespace Sys2Proof.Machine

def exec (i : Instr) (s : State) : Host.Outcome State Fault Refusal :=
  match i with
  | .status p len => Sys2Proof.Machine.execStatus p len s
  | .eventAck p len set => Sys2Proof.Machine.execEventAck p len set s
  | .arrive p len r => Sys2Proof.Machine.execArrive p len r s
  | .weigh p len visit gross => Sys2Proof.Machine.execWeigh p len visit gross s
  | .gone p len visit => Sys2Proof.Machine.execGone p len visit s
  | .cancel p len visit => Sys2Proof.Machine.execCancel p len visit s
  | .truckQuery p len selector value => Sys2Proof.Machine.execTruckQuery p len selector value s
  | .packIn p len r => Sys2Proof.Machine.execPackIn p len r s
  | .deckPull p len tag => Sys2Proof.Machine.execDeckPull p len tag s
  | .deckQuery p len => Sys2Proof.Machine.execDeckQuery p len s
  | .hello p len => Sys2Proof.Machine.execHello p len s
  | .next p len => Sys2Proof.Machine.execNext p len s
  | .lift p len id tag => Sys2Proof.Machine.execLift p len id tag s
  | .place p len id kind number => Sys2Proof.Machine.execPlace p len id kind number s
  | .putBack p len id => Sys2Proof.Machine.execPutBack p len id s
  | .fail p len id reason => Sys2Proof.Machine.execFail p len id reason s
  | .surveyReport p len id count tags => Sys2Proof.Machine.execSurveyReport p len id count tags s
  | .cfgSetBay p len kind index value => Sys2Proof.Machine.execCfgSetBay p len kind index value s
  | .cfgSetZone p len kind index value => Sys2Proof.Machine.execCfgSetZone p len kind index value s
  | .cfgSetDensity p len index value => Sys2Proof.Machine.execCfgSetDensity p len index value s
  | .cfgSetUplift p len index value => Sys2Proof.Machine.execCfgSetUplift p len index value s
  | .cfgSetWetDwell p len index value => Sys2Proof.Machine.execCfgSetWetDwell p len index value s
  | .cfgSetMargin p len index value => Sys2Proof.Machine.execCfgSetMargin p len index value s
  | .cfgSetMillMark p len kind index value => Sys2Proof.Machine.execCfgSetMillMark p len kind index value s
  | .cfgSetGateMark p len kind index value => Sys2Proof.Machine.execCfgSetGateMark p len kind index value s
  | .cfgSetAgeLimit p len index value => Sys2Proof.Machine.execCfgSetAgeLimit p len index value s
  | .cfgSetLaneCount p len index value => Sys2Proof.Machine.execCfgSetLaneCount p len index value s
  | .cfgSetLaneZone p len index value => Sys2Proof.Machine.execCfgSetLaneZone p len index value s
  | .cfgSetMaxDigDepth p len index value => Sys2Proof.Machine.execCfgSetMaxDigDepth p len index value s
  | .cfgSetTaskTimeout p len index value => Sys2Proof.Machine.execCfgSetTaskTimeout p len index value s
  | .cfgSetSilenceLimit p len index value => Sys2Proof.Machine.execCfgSetSilenceLimit p len index value s
  | .cfgSetPortRate p len index value => Sys2Proof.Machine.execCfgSetPortRate p len index value s
  | .cfgSetRoute p len index value => Sys2Proof.Machine.execCfgSetRoute p len index value s
  | .cfgGet p len kind index => Sys2Proof.Machine.execCfgGet p len kind index s
  | .hold p len tag => Sys2Proof.Machine.execHold p len tag s
  | .free p len tag => Sys2Proof.Machine.execFree p len tag s
  | .writeOff p len tag => Sys2Proof.Machine.execWriteOff p len tag s
  | .packDefine p len r => Sys2Proof.Machine.execPackDefine p len r s
  | .packQuery p len selector value => Sys2Proof.Machine.execPackQuery p len selector value s
  | .stackQuery p len id => Sys2Proof.Machine.execStackQuery p len id s
  | .acceptPartial p len visit => Sys2Proof.Machine.execAcceptPartial p len visit s
  | .loaderMode p len loader mode => Sys2Proof.Machine.execLoaderMode p len loader mode s
  | .stocktake p len scope => Sys2Proof.Machine.execStocktake p len scope s
  | .stocktakeQuery p len => Sys2Proof.Machine.execStocktakeQuery p len s
  | .shipRead p len => Sys2Proof.Machine.execShipRead p len s
  | .clockSet p len minute => Sys2Proof.Machine.execClockSet p len minute s
  | .wetLevel p len level => Sys2Proof.Machine.execWetLevel p len level s
  | .restart p len clear => Sys2Proof.Machine.execRestart p len clear s
  | .unknownMessage p code => Sys2Proof.Machine.execUnknownMessage p code s
  | .badCheckDiscard p => Sys2Proof.Machine.execBadCheckDiscard p s
  | .gapTimeout p => Sys2Proof.Machine.execGapTimeout p s
  | .answerSent p strap => Sys2Proof.Machine.execAnswerSent p strap s
  | .promotion slot => Sys2Proof.Machine.execPromotion slot s
  | .taskTimerExpiry id => Sys2Proof.Machine.execTaskTimerExpiry id s
  | .silenceTimerExpiry loader => Sys2Proof.Machine.execSilenceTimerExpiry loader s
  | .yardMinute => Sys2Proof.Machine.execYardMinute s
  | .pickStep => Sys2Proof.Machine.execPickStep s
  | .configWriteEnd => Sys2Proof.Machine.execConfigWriteEnd s
  | .retainedWriteEnd => Sys2Proof.Machine.execRetainedWriteEnd s
  | .powerOn strap => Sys2Proof.Machine.execPowerOn strap s
  | .resetPin strap => Sys2Proof.Machine.execResetPin strap s
  | .supplyFall => Sys2Proof.Machine.execSupplyFall s
  | .backupLapse => Sys2Proof.Machine.execBackupLapse s
  | .startSweep => Sys2Proof.Machine.execStartSweep s
  | .startByteReceived p => Sys2Proof.Machine.execStartByteReceived p s
  | .lengthByteDiscard p => Sys2Proof.Machine.execLengthByteDiscard p s
  | .writeOfHeadBegins => Sys2Proof.Machine.execWriteOfHeadBegins s

end Sys2Proof.Machine
end

