-- ==== Sys2Proof/Safety.lean ====
section
/-! DEFINITION. What counts as a safe run, and the terms in which the statements speak of a step. -/
namespace Sys2Proof.Machine

/-- A step that answers a next state. The manual describes no event that stops the 7640 (log 32). -/
def State.Safe (s : State) : Prop := ∃ t, step s = .next t

/-- The law of the attention lines and of READY (R178, R179): a line is asserted exactly when a set flag is routed to it, READY exactly
while the yard is READY. -/
def State.LinesLaw (s : State) : Prop :=
  s.pins.attn.length = 6 ∧
    (∀ n, n < 6 → (s.pins.attn[n]? = some true ↔ ∃ e, s.flag e = true ∧ s.route e = some n)) ∧
    (s.pins.ready = true ↔ s.cond = .ready)

/-- Nothing is owed between steps: the model's own marks are clear (log 25). -/
def State.Quiet (s : State) : Prop := s.marks = {}

/-- Every flag that is yes in the first state is yes in the second (R174). -/
def State.FlagsKept (s t : State) : Prop := ∀ e : Event, s.flag e = true → t.flag e = true

/-- The yard: the whole state but for the ports, the attention lines, READY, the Retained Store and the marks, each of which `Served` and
`Unasked` speak of. GATE_HOLD and MILL_HOLD are in it. -/
def State.yard (s : State) : State :=
  { s with ports := [], pins := { s.pins with attn := [], ready := false }, retained := .emptied 0#32 false, marks := {} }

/-- The image of the higher generation holds a content with a matching check (R189). -/
abbrev RetainedStore.Holds (r : RetainedStore) (c : RetainedRecord) : Prop :=
  if r.a.gen ≤ r.b.gen then r.b.ok = true ∧ r.b.content = c else r.a.ok = true ∧ r.a.content = c

/-- What a step leaves of the Retained Store (R189): where the supply is present, no write is in progress, and the image of the higher
generation does not hold the content of the state with a matching check, a write of that content begins into the image of the lower
generation, whose check fails until the write ends; else the store is as it was. -/
def State.StoreFollows (s t : State) : Prop :=
  (t.supply = true → s.retained.write = none → ¬ s.retained.Holds t.retainedContent →
    t.retained =
      { (if s.retained.a.gen ≤ s.retained.b.gen then { s.retained with a := { s.retained.a with ok := false } }
          else { s.retained with b := { s.retained.b with ok := false } }) with write := some t.retainedContent }) ∧
    (t.supply = false ∨ s.retained.write ≠ none ∨ s.retained.Holds t.retainedContent → t.retained = s.retained)

/-- What every step leaves when it is complete: the lines judged, nothing owed, and the Retained Store following. -/
def State.Settled (s t : State) : Prop := t.LinesLaw ∧ t.Quiet ∧ s.StoreFollows t

/-- A frame taken for an answer on a port (R169, R170): the port is ANSWERING with the answer in its buffer, at the rate it had, and holds
some frame in its receive buffer (which one, the statement PortEvents says); every other port is as it was. -/
def State.Served (s t : State) (p : Port) (code : Nat) (a : Answer) : Prop :=
  (∃ rx, t.port p = ⟨.answering, rx, false, some ⟨code, a⟩, (s.port p).rate⟩) ∧ (∀ q, q ≠ p → t.port q = s.port q) ∧ s.Settled t

/-- A step that no port answers: every port is as it was. -/
def State.Unasked (s t : State) : Prop := (∀ q, t.port q = s.port q) ∧ s.Settled t

/-- A port takes a frame: the supply is present and no answer is held or being sent (R170, R183). -/
def State.Takes (s : State) (p : Port) : Prop := s.supply = true ∧ (s.port p).cond ≠ .answering

/-- A port takes a frame and the yard is READY, so that a permitted message of the right length is served by its owning rule (R171). -/
def State.Serves (s : State) (p : Port) : Prop := s.Takes p ∧ s.cond = .ready

/-- A loader port takes a frame, the yard is READY, and the loader's office mode is not OFFLINE, so that the loader is up once it is
heard (R142, R144, R171). -/
def State.Works (s : State) (n : Fin 8) : Prop := s.Serves (.l n) ∧ (s.loader n.val).mode ≠ .offline

/-- A loader's record as a valid frame on its port leaves it, before anything is handed on (R142). -/
def State.asHeard (s : State) (n : Nat) : State := s.setLoader n { s.loader n with linked := true, silence := some 0 }

/-- A command answered: it gives a next state in which its port holds the answer, and whose yard is that of `u`. -/
def State.Answers (s : State) (i : Instr) (p : Port) (code : Nat) (a : Answer) (u : State) : Prop :=
  ∃ t, exec i s = .next t ∧ s.Served t p code a ∧ t.yard = u.yard

/-- A command that no port answers carried out: it gives a next state with every port as it was, and whose yard is that of `u`. -/
def State.Does (s : State) (i : Instr) (u : State) : Prop := ∃ t, exec i s = .next t ∧ s.Unasked t ∧ t.yard = u.yard

/-- A message row: its message, its port, the length its frame gives, the length its layout gives, and the bytes its fields spell
(Table 10-4, R172). -/
structure Frame where
  msg : Msg
  port : Port
  len : Nat
  want : Nat
  fields : List Byte
deriving DecidableEq, Repr

/-- The frame a message row stands for; none for an event row and for UNKNOWN_MESSAGE. -/
def frameOf : Instr → Option Frame
  | .status p len => some ⟨.status, p, len, 0, []⟩
  | .eventAck p len set => some ⟨.eventAck, p, len, 2, be2 set.toNat⟩
  | .arrive p len r => some ⟨.arrive, p, len, 12 + 10 * r.count, arriveBody r⟩
  | .weigh p len visit gm => some ⟨.weigh, p, len, 8, be4 visit ++ be4 gm⟩
  | .gone p len visit => some ⟨.gone, p, len, 4, be4 visit⟩
  | .cancel p len visit => some ⟨.cancel, p, len, 4, be4 visit⟩
  | .truckQuery p len selector value => some ⟨.truckQuery, p, len, 5, be1 selector ++ be4 value⟩
  | .packIn p len r => some ⟨.packIn, p, len, 14, packBody r⟩
  | .deckPull p len tag => some ⟨.deckPull, p, len, 4, be4 tag⟩
  | .deckQuery p len => some ⟨.deckQuery, p, len, 0, []⟩
  | .hello p len => some ⟨.hello, p, len, 0, []⟩
  | .next p len => some ⟨.next, p, len, 0, []⟩
  | .lift p len id tag => some ⟨.lift, p, len, 6, be2 id ++ be4 tag⟩
  | .place p len id kind number => some ⟨.place, p, len, 5, be2 id ++ be1 kind ++ be2 number⟩
  | .putBack p len id => some ⟨.putBack, p, len, 2, be2 id⟩
  | .fail p len id reason => some ⟨.fail, p, len, 3, be2 id ++ be1 reason⟩
  | .surveyReport p len id count tags => some ⟨.surveyReport, p, len, 3 + 4 * count, surveyBody id count tags⟩
  | .cfgSetBay p len kind index value => some ⟨.cfgSet, p, len, 4, cfgBody kind index value⟩
  | .cfgSetZone p len kind index value => some ⟨.cfgSet, p, len, 4, cfgBody kind index value⟩
  | .cfgSetDensity p len index value => some ⟨.cfgSet, p, len, 4, cfgBody 7 index value⟩
  | .cfgSetUplift p len index value => some ⟨.cfgSet, p, len, 4, cfgBody 8 index value⟩
  | .cfgSetWetDwell p len index value => some ⟨.cfgSet, p, len, 4, cfgBody 9 index value⟩
  | .cfgSetMargin p len index value => some ⟨.cfgSet, p, len, 4, cfgBody 10 index value⟩
  | .cfgSetMillMark p len kind index value => some ⟨.cfgSet, p, len, 4, cfgBody kind index value⟩
  | .cfgSetGateMark p len kind index value => some ⟨.cfgSet, p, len, 4, cfgBody kind index value⟩
  | .cfgSetAgeLimit p len index value => some ⟨.cfgSet, p, len, 4, cfgBody 15 index value⟩
  | .cfgSetLaneCount p len index value => some ⟨.cfgSet, p, len, 4, cfgBody 16 index value⟩
  | .cfgSetLaneZone p len index value => some ⟨.cfgSet, p, len, 4, cfgBody 17 index value⟩
  | .cfgSetMaxDigDepth p len index value => some ⟨.cfgSet, p, len, 4, cfgBody 18 index value⟩
  | .cfgSetTaskTimeout p len index value => some ⟨.cfgSet, p, len, 4, cfgBody 19 index value⟩
  | .cfgSetSilenceLimit p len index value => some ⟨.cfgSet, p, len, 4, cfgBody 20 index value⟩
  | .cfgSetPortRate p len index value => some ⟨.cfgSet, p, len, 4, cfgBody 21 index value⟩
  | .cfgSetRoute p len index value => some ⟨.cfgSet, p, len, 4, cfgBody 22 index value⟩
  | .cfgGet p len kind index => some ⟨.cfgGet, p, len, 2, be1 kind ++ be1 index⟩
  | .hold p len tag => some ⟨.hold, p, len, 4, be4 tag⟩
  | .free p len tag => some ⟨.free, p, len, 4, be4 tag⟩
  | .writeOff p len tag => some ⟨.writeOff, p, len, 4, be4 tag⟩
  | .packDefine p len r => some ⟨.packDefine, p, len, 14, packBody r⟩
  | .packQuery p len selector value => some ⟨.packQuery, p, len, 5, be1 selector ++ be4 value⟩
  | .stackQuery p len id => some ⟨.stackQuery, p, len, 2, be2 id⟩
  | .acceptPartial p len visit => some ⟨.acceptPartial, p, len, 4, be4 visit⟩
  | .loaderMode p len n mode => some ⟨.loaderMode, p, len, 2, be1 n ++ be1 mode⟩
  | .stocktake p len scope => some ⟨.stocktake, p, len, 1, scopeBody scope⟩
  | .stocktakeQuery p len => some ⟨.stocktakeQuery, p, len, 0, []⟩
  | .shipRead p len => some ⟨.shipRead, p, len, 0, []⟩
  | .clockSet p len minute => some ⟨.clockSet, p, len, 4, be4 minute.toNat⟩
  | .wetLevel p len level => some ⟨.wetLevel, p, len, 1, be1 level⟩
  | .restart p len clear => some ⟨.restart, p, len, 1, be1 clear⟩
  | .unknownMessage _ _ | .badCheckDiscard _ | .gapTimeout _ | .answerSent _ _ | .promotion _ | .taskTimerExpiry _
  | .silenceTimerExpiry _ | .yardMinute | .pickStep | .configWriteEnd | .retainedWriteEnd | .powerOn _ | .resetPin _ | .supplyFall
  | .backupLapse | .startSweep | .startByteReceived _ | .lengthByteDiscard _ | .writeOfHeadBegins => none

/-- What a CFG_SET frame carries (R186). -/
structure CfgReq where
  port : Port
  len : Nat
  kind : Nat
  index : Nat
  value : Nat
deriving DecidableEq, Repr

/-- What a CFG_SET row carries: one row for each group of kinds of Table 11-2; none for every other row. -/
def cfgOf : Instr → Option CfgReq
  | .cfgSetBay p len kind index value => some ⟨p, len, kind, index, value⟩
  | .cfgSetZone p len kind index value => some ⟨p, len, kind, index, value⟩
  | .cfgSetDensity p len index value => some ⟨p, len, 7, index, value⟩
  | .cfgSetUplift p len index value => some ⟨p, len, 8, index, value⟩
  | .cfgSetWetDwell p len index value => some ⟨p, len, 9, index, value⟩
  | .cfgSetMargin p len index value => some ⟨p, len, 10, index, value⟩
  | .cfgSetMillMark p len kind index value => some ⟨p, len, kind, index, value⟩
  | .cfgSetGateMark p len kind index value => some ⟨p, len, kind, index, value⟩
  | .cfgSetAgeLimit p len index value => some ⟨p, len, 15, index, value⟩
  | .cfgSetLaneCount p len index value => some ⟨p, len, 16, index, value⟩
  | .cfgSetLaneZone p len index value => some ⟨p, len, 17, index, value⟩
  | .cfgSetMaxDigDepth p len index value => some ⟨p, len, 18, index, value⟩
  | .cfgSetTaskTimeout p len index value => some ⟨p, len, 19, index, value⟩
  | .cfgSetSilenceLimit p len index value => some ⟨p, len, 20, index, value⟩
  | .cfgSetPortRate p len index value => some ⟨p, len, 21, index, value⟩
  | .cfgSetRoute p len index value => some ⟨p, len, 22, index, value⟩
  | _ => none

/-- A Pack Table in its canonical form, no tag held twice (R1, R2). -/
def packsSound (packs : List (Nat × Pack)) : Prop :=
  Tab.wf 4096 packs = true ∧
    ∀ i j p q, Tab.get? packs i = some p → Tab.get? packs j = some q → p.tag = q.tag → i = j

/-- The tables keep their canonical form and the law of tags, in the working state, in both images of the Retained Store and in a write in
progress (R1, R2, R75, R189). -/
def State.TablesLaw (s : State) : Prop :=
  packsSound s.packs ∧ Tab.wf 24 s.trucks = true ∧ packsSound s.retained.a.content.packs ∧ packsSound s.retained.b.content.packs ∧
    ∀ c, s.retained.write = some c → packsSound c.packs

/-- The law of the Plan Queue: each slot at most once, never the truck whose plan is in flight (R97). -/
def State.PlanQueueLaw (s : State) : Prop := s.planQueue.Nodup ∧ ∀ p, s.plan = some p → p.slot ∉ s.planQueue

/-- The law of the Shipment Log: at most 32 records, in the working state and in what the Retained Store holds (R164, R189). -/
def State.LogLaw (s : State) : Prop :=
  s.shipLog.length ≤ 32 ∧ s.retained.a.content.shipLog.length ≤ 32 ∧ s.retained.b.content.shipLog.length ≤ 32 ∧
    ∀ c, s.retained.write = some c → c.shipLog.length ≤ 32

/-- The law of the two images (R189): their generations differ, and the one of the higher generation is whole, so that a start that finds
no lapse has a record to take. -/
def State.StoreLaw (s : State) : Prop :=
  (s.retained.a.gen < s.retained.b.gen ∧ s.retained.b.ok = true) ∨ (s.retained.b.gen < s.retained.a.gen ∧ s.retained.a.ok = true)

/-- The law of the pool and of the loaders' records (R120, R123): no id twice, the counter a 16-bit number, and a loader's current task is
exactly the task that is ISSUED or LIFTED and assigned to it. -/
def State.DispatchLaw (s : State) : Prop :=
  (s.tasks.map (·.id)).Nodup ∧ s.lastId ≤ 65535 ∧
    (∀ n id, (s.loader n).current = some id → ∃ k ∈ s.tasks, k.id = id ∧ k.held = true ∧ k.loader = n) ∧
    ∀ k ∈ s.tasks, k.held = true → (s.loader k.loader).current = some k.id

/-- The law of the lanes (R84): each lane is held by at most one truck. -/
def State.LaneLaw (s : State) : Prop :=
  ∀ i j t u lane, s.truck? i = some t → s.truck? j = some u → t.lane = some lane → u.lane = some lane → i = j

/-- The law of the pool's size (R100, R120): at most 512 tasks, and at most 416 while a plan is in flight. -/
def State.PoolLaw (s : State) : Prop := s.tasks.length ≤ 512 ∧ (s.plan ≠ none → s.tasks.length ≤ 416)

/-- A plan's order of stacks holds each stack of its pick list once, and no other (R110, R112). -/
def Plan.Ordered (p : Plan) : Prop := p.stackOrder.Nodup ∧ ∀ st, st ∈ p.stackOrder ↔ ∃ e ∈ p.picks, e.stack = st

/-- The law of the order of stacks: the plan in flight keeps it (R110, R112). -/
def State.PlanLaw (s : State) : Prop := ∀ p, s.plan = some p → p.Ordered

/-- The plan in flight fits the yard as R113 has it: at most 24 picks, since N is at most 24, each of a pack with a reservation; no pack
twice in the lists of its stacks; and a max dig depth of at most 3 (R101). -/
def State.PlanFits (s : State) : Prop :=
  ∀ p, s.plan = some p →
    p.picks.length ≤ 24 ∧ s.setting .maxDigDepth 0 ≤ 3 ∧
      (p.stackOrder.flatMap (fun st => (s.stack st).list)).Nodup ∧
      ∀ e ∈ p.picks, ∃ q, s.pack? e.pack = some q ∧ q.reservation ≠ none

/-- The law of the picks: the plan in flight names no pack twice, and each is RESERVED for the plan's truck (R106, R110). -/
def State.PicksLaw (s : State) : Prop :=
  ∀ p, s.plan = some p →
    (p.picks.map (·.pack)).Nodup ∧
      ∀ e ∈ p.picks, ∃ q r, s.pack? e.pack = some q ∧ q.state = .reserved ∧ q.reservation = some r ∧ r.slot = p.slot

/-- What keeps every other event off the picks: no task's object and no truck's load is a pick (R103, R123, R5), only a SURVEY has no
object, and it is not LIFTED (Table 7-1, R31), and no plan is in flight while the yard is STARTING (R98). -/
def State.PicksApart (s : State) : Prop :=
  (s.cond = .starting → s.plan = none) ∧
    (∀ k ∈ s.tasks, k.pack = none → k.kind = .survey ∧ k.state ≠ .lifted) ∧
    ∀ p, s.plan = some p → ∀ e ∈ p.picks,
      (∀ k ∈ s.tasks, k.pack ≠ some e.pack) ∧ ∀ slot t, s.truck? slot = some t → e.pack ∉ t.load

/-- The law of the settings: every working value, every stored value and every value that waits to be stored is inside its kind's range
(R185 to R187, Table 11-2). -/
def State.SettingsLaw (s : State) : Prop :=
  ∀ k i, i < SettingKind.count k →
    k.valueInRange (s.setting k i) = true ∧ k.valueInRange (s.storedSetting k i) = true ∧
      ∀ e ∈ s.writeList, e.item = k.key i → k.valueInRange e.value = true

end Sys2Proof.Machine
end

