-- ==== Sys2Proof/WellFormed.lean ====
section
/-! DEFINITION. Which commands are well formed: every field has a value its bytes or its table can carry (R172, section 10.3). What a
field's own rule refuses, such as a tag of 0, is well formed: the machine answers it. -/
namespace Sys2Proof

/-- A value one byte carries. -/
def inByte (n : Nat) : Bool := decide (n < 256)
/-- A value two bytes carry. -/
def inTwo (n : Nat) : Bool := decide (n < 65536)
/-- A value four bytes carry. -/
def inFour (n : Nat) : Bool := decide (n < 4294967296)
/-- A body length a frame may give (Table 10-2). -/
def bodyLength (n : Nat) : Bool := decide (n ≤ 250)

/-- The bit fields of an attribute block (Table 10-5). -/
def Attrs.wf (a : Attrs) : Bool :=
  decide (a.species < 16) && decide (a.thickness < 16) && decide (a.width < 16) && decide (a.length < 16) && decide (a.grade < 8) &&
    decide (a.treatment < 4) && decide (a.moisture < 4)

/-- The fields of PACK_IN and PACK_DEFINE (Table 10-5). -/
def PackReq.wf (r : PackReq) : Bool :=
  inFour r.tag && r.attrs.wf && inTwo r.pieces && inTwo r.volume && inByte r.hasWeight && inTwo r.weight

/-- The bit fields of a key (Table 10-6). -/
def KeyReq.wf (k : KeyReq) : Bool :=
  decide (k.species < 16) && decide (k.thickness < 16) && decide (k.width < 16) && decide (k.lengthMin < 16) &&
    decide (k.lengthMax < 16) && decide (k.treatment < 4) && decide (k.moisture < 4)

/-- The fields of an order line (Table 10-7). -/
def LineReq.wf (l : LineReq) : Bool :=
  inByte l.want && decide (l.primaryGrade < 8) && decide (l.alternateGrade < 8) && l.primary.wf && l.alternate.wf

/-- The fields of ARRIVE (Table 10-7): as many lines as the count byte gives. -/
def ArriveReq.wf (r : ArriveReq) : Bool :=
  inFour r.visit && inByte r.cls && inTwo r.tare && inTwo r.gross && inByte r.maxPacks && inByte r.partialOk && inByte r.count &&
    decide (r.lines.length = r.count) && r.lines.all LineReq.wf

/-- A scope a STOCKTAKE byte carries (R39). -/
def Scope.wf : Scope → Bool
  | .zone z => inByte z
  | .all => true

/-- A message code of Table 10-4. -/
def knownCode (code : Nat) : Bool :=
  [0x01, 0x02].contains code || (decide (0x10 ≤ code) && decide (code ≤ 0x14)) || (decide (0x20 ≤ code) && decide (code ≤ 0x22)) ||
    (decide (0x30 ≤ code) && decide (code ≤ 0x36)) || (decide (0x40 ≤ code) && decide (code ≤ 0x4F))

/-- A command is well formed. -/
def Instr.wf : Instr → Bool
  | .status _ len | .deckQuery _ len | .hello _ len | .next _ len | .stocktakeQuery _ len | .shipRead _ len => bodyLength len
  | .eventAck _ len _ | .clockSet _ len _ => bodyLength len
  | .arrive _ len r => bodyLength len && r.wf
  | .weigh _ len visit gross => bodyLength len && inFour visit && inFour gross
  | .gone _ len visit | .cancel _ len visit | .acceptPartial _ len visit => bodyLength len && inFour visit
  | .truckQuery _ len selector value | .packQuery _ len selector value => bodyLength len && inByte selector && inFour value
  | .packIn _ len r | .packDefine _ len r => bodyLength len && r.wf
  | .deckPull _ len tag | .hold _ len tag | .free _ len tag | .writeOff _ len tag => bodyLength len && inFour tag
  | .lift _ len id tag => bodyLength len && inTwo id && inFour tag
  | .place _ len id kind number => bodyLength len && inTwo id && inByte kind && inTwo number
  | .putBack _ len id => bodyLength len && inTwo id
  | .fail _ len id reason => bodyLength len && inTwo id && inByte reason
  | .surveyReport _ len id count tags =>
    bodyLength len && inTwo id && inByte count && decide (tags.length = count) && tags.all inFour
  | .cfgSetBay _ len kind index value | .cfgSetZone _ len kind index value | .cfgSetMillMark _ len kind index value
  | .cfgSetGateMark _ len kind index value => bodyLength len && inByte kind && inByte index && inTwo value
  | .cfgSetDensity _ len index value | .cfgSetUplift _ len index value | .cfgSetWetDwell _ len index value
  | .cfgSetMargin _ len index value | .cfgSetAgeLimit _ len index value | .cfgSetLaneCount _ len index value
  | .cfgSetLaneZone _ len index value | .cfgSetMaxDigDepth _ len index value | .cfgSetTaskTimeout _ len index value
  | .cfgSetSilenceLimit _ len index value | .cfgSetPortRate _ len index value | .cfgSetRoute _ len index value =>
    bodyLength len && inByte index && inTwo value
  | .cfgGet _ len kind index => bodyLength len && inByte kind && inByte index
  | .stackQuery _ len id => bodyLength len && inTwo id
  | .loaderMode _ len loader mode => bodyLength len && inByte loader && inByte mode
  | .stocktake _ len scope => bodyLength len && scope.wf
  | .wetLevel _ len level => bodyLength len && inByte level
  | .restart _ len clear => bodyLength len && inByte clear
  | .unknownMessage _ code => inByte code && !knownCode code
  | .promotion slot => decide (slot < Config.slotCount)
  | .taskTimerExpiry id => decide (1 ≤ id) && decide (id ≤ Config.lastTaskId)
  | .badCheckDiscard _ | .gapTimeout _ | .answerSent _ _ | .silenceTimerExpiry _ | .yardMinute | .pickStep | .configWriteEnd
  | .retainedWriteEnd | .powerOn _ | .resetPin _ | .supplyFall | .backupLapse | .startSweep | .startByteReceived _
  | .lengthByteDiscard _ | .writeOfHeadBegins => true

end Sys2Proof
end

