-- ==== Sys2Proof/Certificates/Slice0/Obligations.lean ====
section
/-! DEFINITION. The statements for the provers: what each command of the 7640 does, as the rules of spec/ give it, what it leaves as it
was, and the laws that every step keeps. In each, `s` is the state the command finds and `u` the yard it leaves; `State.settle` is what
the changes of an event still owe the yard (R72, R122, R93, R157, R85, R82, R98, R30, R40), and with no marks set it changes nothing. -/

open Sys2Proof Sys2Proof.Machine

-- The step.

/-- A step takes the command at the front of the queue and carries it out with the rest of the queue (log 29). -/
def Obligations.StepRunsTheFrontCommand : Prop :=
  ∀ (c : Instr) (rest : List Instr) (s : State), step { s with pending := c :: rest } = exec c { s with pending := rest }

/-- With no command waiting a second of the internal time base passes (log 2, the model's choice): the Yard Clock counts by R180; without a
timer that expires in that second every running counter goes one second on and nothing else changes. Each timer that reaches its limit in
the second expires in it, the counters one second on: the ageing timers of the waiting NORMAL trucks in ascending order of arrival sequence,
then the task timers in creation order, then the silence timers in loader order (logs 3 and 46, the model's choice). An ageing timer makes
its truck a promoted EXPRESS truck, which moves in the queue, and admission is judged (R80); a task timer revokes an ISSUED task with
TASK_TIMEOUT set, or sets TASK_OVERDUE for a LIFTED one (R139), whose elapsed seconds then stay at its timeout (log 53, the model's choice);
a silence timer stops, and a LINKED loader becomes SILENT with LOADER_LOST set and, if it was up, goes down (R142, R145). Without the main
supply nothing happens. -/
def Obligations.IdleStepIsOneSecond : Prop :=
  ∀ s : State,
    (s.pending = [] → s.supply = false → step s = .next s) ∧
    (s.pending = [] → s.supply = true →
      ∃ t, step s = .next t ∧ s.Unasked t ∧
        t.clock =
          (if s.clock.phase + 1 < 60 then ⟨s.clock.minute, s.clock.stale, s.clock.phase + 1⟩
            else ⟨s.clock.minute + 1, s.clock.stale, 0⟩) ∧
        ((∀ e ∈ s.trucks, e.2.state = .waiting → e.2.express = true ∨ min Config.top32 (e.2.waiting + 1) < s.ageLimit * 60) →
          (∀ k ∈ s.tasks, ∀ m, k.timer = some m → m.elapsed + 1 < m.timeout ∨ m.timeout ≤ m.elapsed) →
          (∀ n e, n < 8 → (s.loader n).silence = some e → e + 1 < s.silenceLimit) →
          t.yard = State.yard { s with
            clock := t.clock
            trucks := s.trucks.map (fun (e : Nat × Truck) =>
              (e.1, if e.2.state = .waiting then { e.2 with waiting := min Config.top32 (e.2.waiting + 1) } else e.2))
            tasks := s.tasks.map (fun (k : Sys2Proof.Machine.Task) =>
              { k with timer := k.timer.map (fun m => if m.timeout ≤ m.elapsed then m else ⟨m.elapsed + 1, m.timeout⟩) })
            loaders := s.loaders.map (fun (e : Nat × Loader) => (e.1, { e.2 with silence := e.2.silence.map (· + 1) })) }) ∧
        (let counted : State := { s with
          clock := t.clock
          trucks := s.trucks.map (fun (e : Nat × Truck) =>
            (e.1, if e.2.state = .waiting then { e.2 with waiting := min Config.top32 (e.2.waiting + 1) } else e.2))
          tasks := s.tasks.map (fun (k : Sys2Proof.Machine.Task) =>
            { k with timer := k.timer.map (fun m => if m.timeout ≤ m.elapsed + 1 then m else ⟨m.elapsed + 1, m.timeout⟩) })
          loaders := s.loaders.map (fun (e : Nat × Loader) => (e.1, { e.2 with silence := e.2.silence.map (· + 1) }))
          marks := {} }
        let due : List Nat := (s.tasks.filter (fun k =>
          k.timer.any (fun m => decide (m.elapsed < m.timeout) && decide (m.timeout ≤ m.elapsed + 1)))).map (·.id)
        let late : List Nat := (List.range 8).filter (fun n => (s.loader n).silence.any (fun e => decide (s.silenceLimit ≤ e + 1)))
        Tab.wf 24 s.trucks = true →
          ∃ aged : List Nat,
            (∀ j, j ∈ aged ↔ ∃ r, s.truck? j = some r ∧ r.state = .waiting ∧ r.express = false ∧
              s.ageLimit * 60 ≤ min Config.top32 (r.waiting + 1)) ∧
            aged.Pairwise (fun a b => ∀ x y, s.truck? a = some x → s.truck? b = some y →
              x.arrivalSeq < y.arrivalSeq ∨ (x.arrivalSeq = y.arrivalSeq ∧ a < b)) ∧
            t.yard = State.yard (late.foldl (fun v n => v.event (fun x => x.silenceExpires n))
              (due.foldl (fun v id => v.event (fun x => x.taskExpires id))
                (aged.foldl (fun v j => v.event (fun x => x.promote j)) counted))))) ∧
    (∀ j r, s.truck? j = some r → r.state = .waiting → r.express = false →
      let r' : Truck := { r with express := true, promoted := true, waiting := max r.waiting (s.ageLimit * 60) }
      s.event (fun x => x.promote j) = State.settle { s with
        trucks := Tab.put s.trucks j r'
        waiting := insertWaiting (Tab.put s.trucks j r') j r' (s.waiting.filter (fun i => !(i == j)))
        marks := { lanes := true } }) ∧
    (∀ id k m, s.task? id = some k → k.timer = some m → m.elapsed < m.timeout →
      (k.state = .issued → s.event (fun x => x.taskExpires id) = { s with
        tasks := s.tasks.map (fun j => if j.id = id then { j with state := .queued, timer := none } else j)
        loaders := Tab.putD Loader.initial s.loaders k.loader
          { s.loader k.loader with current := none, previous := some ⟨id, .revoked⟩ }
        flags := s.flags ||| 0x0020#16
        marks := {} }) ∧
      (k.state = .lifted → s.event (fun x => x.taskExpires id) = { s with
        tasks := s.tasks.map (fun j => if j.id = id then { j with timer := some ⟨m.timeout, m.timeout⟩ } else j)
        flags := s.flags ||| 0x0040#16
        marks := {} })) ∧
    (∀ n e, (s.loader n).silence = some e →
      let r := s.loader n
      let silent : State := { s with
        loaders := Tab.putD Loader.initial s.loaders n { r with linked := false, silence := none }
        flags := s.flags ||| 0x0080#16
        marks := {} }
      let moved (k : Sys2Proof.Machine.Task) : Sys2Proof.Machine.Task :=
        if (k.state = .queued ∨ k.state = .waitSpace) ∧ k.loader = n ∧ (silent.effective (silent.servingLoader k.zone)).up = true then
          { k with loader := silent.servingLoader k.zone }
        else k
      (r.linked = false → s.event (fun x => x.silenceExpires n) = { s with
        loaders := Tab.putD Loader.initial s.loaders n { r with silence := none }, marks := {} }) ∧
      (r.linked = true → r.mode = .offline → s.event (fun x => x.silenceExpires n) = silent) ∧
      (r.linked = true → r.mode ≠ .offline →
        ((∀ k, r.current.bind s.task? = some k → k.state ≠ .issued) →
          s.event (fun x => x.silenceExpires n) = { silent with tasks := s.tasks.map moved }) ∧
        (∀ k, r.current.bind s.task? = some k → k.state = .issued → k.loader = n →
          s.event (fun x => x.silenceExpires n) = { silent with
            loaders := Tab.putD Loader.initial s.loaders n
              { r with linked := false, silence := none, current := none, previous := some ⟨k.id, .revoked⟩ }
            tasks := (s.tasks.map (fun j => if j.id = k.id then { j with state := .queued, timer := none } else j)).map moved })))

-- The link (chapter 10).

/-- The link judges every good frame before the rule that owns its message (R171): each refusal carries the result code alone (but for
OFFLINE, whose body is that of R151) and changes nothing beyond what the arrival of a frame does to its loader. A code that names no
message of Table 10-4 is answered UNKNOWN_MESSAGE, under the code FFh from 80h on (R168). -/
def Obligations.LinkJudgesEveryFrame : Prop :=
  ∀ s : State,
    (∀ (i : Instr) (f : Frame), frameOf i = some f → s.Takes f.port →
      (f.msg.permitted f.port = false →
        s.Answers i f.port (f.msg.code + 0x80) (.only .notOnThisPort) (s.hear f.port)) ∧
      (f.msg.permitted f.port = true → f.len ≠ f.want →
        s.Answers i f.port (f.msg.code + 0x80) (.only .badLength) (s.hear f.port)) ∧
      (f.msg.permitted f.port = true → f.len = f.want → s.cond = .starting → f.msg ≠ .status →
        s.Answers i f.port (f.msg.code + 0x80) (.only .starting) (s.hear f.port)) ∧
      (f.msg.permitted f.port = true → f.len = f.want → s.cond = .ready → f.msg.refusedOffline = true →
        (∀ n, f.port = .l n → (s.loader n.val).mode = .offline) →
        s.Answers i f.port (f.msg.code + 0x80) .offline (s.hear f.port))) ∧
    (∀ (p : Port) (code : Nat), knownCode code = false → s.Takes p →
      s.Answers (.unknownMessage p code) p (if 0x80 ≤ code then 0xFF else code + 0x80) (.only .unknownMessage) (s.hear p))

/-- A frame that arrives while its port holds or sends an answer, or without the main supply, is lost without a trace (R170, R183). -/
def Obligations.FrameAtABusyPortIsLost : Prop :=
  ∀ s : State,
    (∀ i f, frameOf i = some f → ¬ s.Takes f.port → exec i s = .next s) ∧
    (∀ p code, ¬ s.Takes p → exec (.unknownMessage p code) s = .next s)

/-- A valid frame taken on a loader's port leaves the loader LINKED with its silence timer at 0, whatever the message and its answer
(R142). -/
def Obligations.ValidFrameLinksItsLoader : Prop :=
  ∀ (n : Fin 8) (s t : State), s.Takes (.l n) →
    (∀ i f, frameOf i = some f → f.port = .l n → exec i s = .next t →
      (t.loader n.val).linked = true ∧ (t.loader n.val).silence = some 0 ∧ (t.loader n.val).mode = (s.loader n.val).mode) ∧
    (∀ code, knownCode code = false → exec (.unknownMessage (.l n) code) s = .next t →
      (t.loader n.val).linked = true ∧ (t.loader n.val).silence = some 0 ∧ (t.loader n.val).mode = (s.loader n.val).mode)

/-- A port's own events (R167, R169, R170): an A5h at a HUNTING port begins a frame; a wrong check, a gap of more than 50 ms and a length
byte above 250 discard the frame in reception; the end of an answer other than a RESTART's frees the port. A port that returns to HUNTING
takes the rate of its setting. Nothing else of the yard changes, and without the main supply nothing changes at all. A message taken puts
its frame into the receive buffer: code, length, body, check; of the bytes in a buffer the last, and none before it, brings the frame to an
end, and a right check gives the message its code and body stand for. The model's own choices: the buffer is emptied when the port returns
to HUNTING, and a frame's bytes that its row does not carry are free values (log 6); the rows at a port whose condition does not admit
them, such as ANSWER_SENT at a port that is not ANSWERING, change nothing (log 27). -/
def Obligations.PortEvents : Prop :=
  ∀ (p : Port) (strap : Bool) (s : State),
    let hunting : PortRec := ⟨.hunting, [], false, none, s.portRate (portNum p)⟩
    let Moves (i : Instr) (r : PortRec) : Prop :=
      ∃ t, exec i s = .next t ∧ s.Settled t ∧ t.yard = s.yard ∧ t.port p = r ∧ ∀ q, q ≠ p → t.port q = s.port q
    (s.supply = true → (s.port p).cond = .hunting →
      Moves (.startByteReceived p) { s.port p with cond := .receiving, rx := [], gap := true }) ∧
    ((s.port p).cond ≠ .hunting ∨ s.supply = false → Moves (.startByteReceived p) (s.port p)) ∧
    (∀ i ∈ [Instr.badCheckDiscard p, .gapTimeout p, .lengthByteDiscard p],
      (s.supply = true → (s.port p).cond = .receiving → Moves i hunting) ∧
      ((s.port p).cond ≠ .receiving ∨ s.supply = false → Moves i (s.port p))) ∧
    ((s.port p).cond = .answering → (∀ c cause, (s.port p).tx ≠ some ⟨c, .restart cause⟩) → Moves (.answerSent p strap) hunting) ∧
    ((s.port p).cond ≠ .answering → Moves (.answerSent p strap) (s.port p)) ∧
    (∀ i f, frameOf i = some f → s.Takes f.port →
      ∃ t, exec i s = .next t ∧ (t.port f.port).rx = frameBytes f.msg.code f.len f.fields) ∧
    (∀ (code : Byte) (body : List Byte), body.length ≤ 250 →
      let check := be2 (crc (code :: BitVec.ofNat 8 body.length :: body)).toNat
      let bytes := code :: BitVec.ofNat 8 body.length :: (body ++ check)
      frameBytes code.toNat body.length body = bytes ∧
        frameCommand p bytes = some (messageCommand p code.toNat body) ∧
        (∀ wrong, wrong.length = 2 → wrong ≠ check →
          frameCommand p (code :: BitVec.ofNat 8 body.length :: (body ++ wrong)) = some (.badCheckDiscard p)) ∧
        ∀ k, k < bytes.length → frameCommand p (bytes.take k) = none) ∧
    (∀ code len rest, 250 < BitVec.toNat len → frameCommand p (code :: len :: rest) = some (.lengthByteDiscard p))

-- STATUS, EVENT_ACK and the queries.

/-- STATUS is answered on every port, while the yard is STARTING too, with the items of R173 as they stand; it changes nothing beyond
what the arrival of a frame does to its loader. -/
def Obligations.StatusIsAnswered : Prop :=
  ∀ (p : Port) (s : State), s.Takes p →
    let h := s.hear p
    s.Answers (.status p 0) p 0x81
      (.status ⟨s.cond, s.cause, s.flags, s.clock.minute, s.clock.stale, h.engine, s.trucks.length, s.waiting.length, s.packs.length,
        s.tasks.length, s.deck.length, s.pins.gateHold, s.pins.millHold, s.pins.ready,
        (List.range 8).map (fun n => effectiveOf (h.loader n).mode (h.loader n).linked)⟩) h

/-- EVENT_ACK on port G, T or O makes every flag its set names no and leaves the others; it is answered with the flags as they then
stand, changes nothing else, and the lines follow. While the yard is STARTING it is answered STARTING (R176). -/
def Obligations.EventAckClearsTheNamedFlags : Prop :=
  ∀ (p : Port) (set : FlagSet) (s : State), isStation p = true → s.Takes p →
    (s.cond = .ready →
      s.Answers (.eventAck p 2 set) p 0x82 (.events (s.flags &&& ~~~set)) { s with flags := s.flags &&& ~~~set } ∧
      ∀ e : Event, State.flag { s with flags := s.flags &&& ~~~set } e = (s.flag e && !set.getLsbD e.bit)) ∧
    (s.cond = .starting → s.Answers (.eventAck p 2 set) p 0x82 (.only .starting) s)

/-- TRUCK_QUERY on ports G and O finds its truck by visit number or by slot, refuses as R95 says, changes nothing, and answers the truck's
record with the items of R95 as they stand: its place in the Waiting Queue or none, B − L, its outstanding and loaded packs and its pack
count, the tasks that name its slot, its standing with the Plan Engine, its load from the bottom with the line and match kind of each pack's
reservation, and the number of its returns to create. -/
def Obligations.TruckQueryReadsOneTruck : Prop :=
  ∀ (p : Port) (selector value : Nat) (s : State), p = .g ∨ p = .o → s.Serves p →
    let i := Instr.truckQuery p 5 selector value
    let row (j : Nat) : LoadRow :=
      let r := (s.pack? j).bind (·.reservation)
      ⟨j, r.bind (·.line), r.bind (·.kind)⟩
    let counted (slot : Nat) (test : Pack → Bool) : Nat :=
      s.packs.countP (fun e => e.2.reservation.any (fun r => r.slot == slot) && test e.2)
    let view (slot : Nat) (t : Truck) : TruckView := {
      truck := t
      shortfall := (t.lines.map (fun l => l.want - l.filled)).sum
      position := s.waiting.findIdx? (fun j => j == slot)
      remaining := t.budget - t.est
      outstanding := counted slot (fun q => q.state == .reserved || q.state == .onLoader)
      loaded := counted slot (fun q => q.state == .onTruck)
      packCount := counted slot (fun _ => true)
      tasks := s.tasks.countP (fun k => k.truck == some slot)
      standing :=
        if s.plan.any (fun p => p.slot == slot) = true then .inFlight
        else if slot ∈ s.planQueue then .queued
        else .neither
      load := t.load.map row
      returns := s.returns.countP (fun e => e.slot == slot) }
    (2 ≤ selector ∨ (selector = 0 ∧ (value = 0 ∨ 4294967295 ≤ value)) ∨ (selector = 1 ∧ 24 ≤ value) →
      s.Answers i p 0x94 (.only .badField) s) ∧
    (selector = 0 → 1 ≤ value → value ≤ 4294967294 →
      (s.findVisit value = none → s.Answers i p 0x94 (.only .noSuchTruck) s) ∧
      (∀ slot t, s.findVisit value = some (slot, t) → s.Answers i p 0x94 (.truck (view slot t)) s)) ∧
    (selector = 1 → value < 24 →
      (s.truck? value = none → s.Answers i p 0x94 (.only .noSuchTruck) s) ∧
      (∀ t, s.truck? value = some t → s.Answers i p 0x94 (.truck (view value t)) s))

/-- The office's queries change nothing. PACK_QUERY reads a record by tag, or the occupied entry of the lowest index at or above an index
(R20); STACK_QUERY refuses an id above 511 and answers every other stack with the items of R42; STOCKTAKE_QUERY answers the stocktake
record, active or done (R41). -/
def Obligations.OfficeQueriesRead : Prop :=
  ∀ (selector value id : Nat) (s : State), s.Serves .o →
    let i := Instr.packQuery .o 5 selector value
    let view (n : Nat) (q : Pack) : Answer :=
      .pack ⟨n, q, s.packPosition n q, s.unrated q, s.estimate? q, (s.taskOf n).map Task.mark⟩
    (2 ≤ selector ∨ (selector = 0 ∧ (value = 0 ∨ 4294967295 ≤ value)) ∨ (selector = 1 ∧ 4096 ≤ value) →
      s.Answers i .o 0xC6 (.only .badField) s) ∧
    (selector = 0 → 1 ≤ value → value ≤ 4294967294 →
      (s.findTag value = none → s.Answers i .o 0xC6 (.only .noSuchPack) s) ∧
      (∀ n q, s.findTag value = some (n, q) → s.Answers i .o 0xC6 (view n q) s)) ∧
    (selector = 1 → value < 4096 →
      ((∀ e ∈ s.packs, e.1 < value) → s.Answers i .o 0xC6 (.only .noSuchPack) s) ∧
      (∀ n q, s.packs.find? (fun e => decide (value ≤ e.1)) = some (n, q) → s.Answers i .o 0xC6 (view n q) s)) ∧
    (512 ≤ id → s.Answers (.stackQuery .o 2 id) .o 0xC7 (.only .noSuchStack) s) ∧
    (id < 512 →
      s.Answers (.stackQuery .o 2 id) .o 0xC7
        (.stack ⟨id / 8, id % 8, s.bayZone (id / 8), s.bayEnabled (id / 8), s.tierLimit (id / 8), s.bayCovered (id / 8),
          (s.stack id).list.length, s.pendingArrivals id, (s.stack id).suspect, Tab.get? s.backlog id, (s.surveyOf id).map (·.id),
          s.tasks.countP (fun k => k.source == .stack id || k.dest == .stack id), (s.stack id).list.map s.stackRow⟩) s) ∧
    s.Answers (.stocktakeQuery .o 0) .o 0xCB (.stocktakeRecord s.stocktake) s

/-- DECK_QUERY on port T answers the deck count, the lifted PUT count, MILL_HOLD, the marks, and each pack of the deck from head to tail;
it changes nothing, and is answered STARTING while the yard is STARTING (R64). -/
def Obligations.DeckQueryReadsTheDeck : Prop :=
  ∀ s : State, s.Takes .t →
    (s.cond = .ready →
      s.Answers (.deckQuery .t 0) .t 0xA2
        (.deck ⟨s.deck.length, s.tasks.countP (fun k => k.kind == .put && k.state == .lifted), s.pins.millHold, s.millHigh, s.millLow,
          s.deck.map s.deckRow⟩) s) ∧
    (s.cond = .starting → s.Answers (.deckQuery .t 0) .t 0xA2 (.only .starting) s)

/-- HELLO on a loader's port is answered, whatever the effective state, with the loader's modes, the silence limit, its current and its
previous task; it changes nothing beyond what its arrival does. While the yard is STARTING it is answered STARTING (R152). -/
def Obligations.HelloReadsTheLoader : Prop :=
  ∀ (n : Fin 8) (s : State), s.Takes (.l n) →
    let h := s.hear (.l n)
    (s.cond = .ready →
      s.Answers (.hello (.l n) 0) (.l n) 0xB0
        (.hello ⟨n.val, (h.loader n.val).mode, h.effective n.val, s.silenceLimit,
          ((h.loader n.val).current.bind h.task?).map Task.mark, (h.loader n.val).previous.map Previous.mark⟩) h) ∧
    (s.cond = .starting → s.Answers (.hello (.l n) 0) (.l n) 0xB0 (.only .starting) h)

/-- CFG_GET on port O refuses a kind outside Table 11-2 and an index outside its kind's range, answers every other item with its working
value, its stored value and the value of its waiting or in-writing entry, or none, and changes nothing (R188). Which of the two it gives
where the list holds both is the model's free value (log 39). -/
def Obligations.CfgGetReadsOneItem : Prop :=
  ∀ (kind index : Nat) (s : State), s.Serves .o →
    (SettingKind.ofNum kind = none → s.Answers (.cfgGet .o 2 kind index) .o 0xC1 (.only .badField) s) ∧
    (∀ k, SettingKind.ofNum kind = some k →
      (k.count ≤ index → s.Answers (.cfgGet .o 2 kind index) .o 0xC1 (.only .badField) s) ∧
      (index < k.count →
        ∃ pending : Option Nat,
          s.Answers (.cfgGet .o 2 kind index) .o 0xC1 (.cfgGet kind (s.setting k index) (s.storedSetting k index) pending) s ∧
          (pending = none ↔ ∀ e ∈ s.writeList, e.item ≠ k.key index) ∧
          (∀ v, pending = some v → ∃ e ∈ s.writeList, e.item = k.key index ∧ e.value = v)))

-- The office's plain commands.

/-- CLOCK_SET writes the minute count, sets the second phase to 0 and makes the stale flag no; it is answered with the count and the flag,
and changes nothing else. While the yard is STARTING it is answered STARTING (R181). -/
def Obligations.ClockSetWritesTheClock : Prop :=
  ∀ (minute : Minute) (s : State), s.Takes .o →
    (s.cond = .ready → s.Answers (.clockSet .o 4 minute) .o 0xCD (.clock minute false) { s with clock := ⟨minute, false, 0⟩ }) ∧
    (s.cond = .starting → s.Answers (.clockSet .o 4 minute) .o 0xCD (.only .starting) s)

/-- WET_LEVEL sets the wet level, or refuses a level above 3, and changes nothing else (R49). RESTART is answered with the reset cause it
will bring and changes no state until that answer has been sent, or is refused where CLEAR_YARD is neither yes nor no (R191). -/
def Obligations.WetLevelAndRestartAreTaken : Prop :=
  ∀ (level clear : Nat) (s : State), s.Serves .o →
    (level ≤ 3 → s.Answers (.wetLevel .o 1 level) .o 0xCE (.wet level) { s with wet := level }) ∧
    (3 < level → s.Answers (.wetLevel .o 1 level) .o 0xCE (.only .badField) s) ∧
    (clear = 0 → s.Answers (.restart .o 1 clear) .o 0xCF (.restart .officeRestart) s) ∧
    (clear = 1 → s.Answers (.restart .o 1 clear) .o 0xCF (.restart .officeRestartClear) s) ∧
    (1 < clear → s.Answers (.restart .o 1 clear) .o 0xCF (.only .badField) s)

/-- The Shipment Log is first in first out and holds 32 records: a record is appended at its tail, a full log loses its oldest record and
sets LOG_OVERWRITE (R164). SHIP_READ on port O removes and answers the head with the number of records left, or answers EMPTY; while the
yard is STARTING it is answered STARTING, and on any other port NOT_ON_THIS_PORT (R165). -/
def Obligations.ShipmentLogIsFirstInFirstOut : Prop :=
  ∀ s : State,
    (∀ r, s.shipLog.length < 32 → s.logShipment r = { s with shipLog := s.shipLog ++ [r] }) ∧
    (∀ r, 32 ≤ s.shipLog.length → s.logShipment r = { s with shipLog := s.shipLog.drop 1 ++ [r], flags := s.flags ||| 0x1000#16 }) ∧
    (s.Takes .o →
      (s.cond = .ready → s.shipLog = [] → s.Answers (.shipRead .o 0) .o 0xCC (.only .empty) s) ∧
      (∀ r rest, s.cond = .ready → s.shipLog = r :: rest →
        s.Answers (.shipRead .o 0) .o 0xCC (.shipment r rest.length) { s with shipLog := rest }) ∧
      (s.cond = .starting → s.Answers (.shipRead .o 0) .o 0xCC (.only .starting) s)) ∧
    (∀ p, p ≠ .o → s.Takes p → s.Answers (.shipRead p 0) p 0xCC (.only .notOnThisPort) (s.hear p))

/-- HOLD (R15, R16): the refusals in their order; a pack with no reservation to withdraw is held where it is; a RESERVED pack is held with
its FETCH removed and its reservation ended as a loss, and the answer names the truck slot. The task removed is in the pool and in the
orders no longer; a loader that held it has no current task, and its previous task is the removed one, REVOKED (R121). -/
def Obligations.HoldHoldsThePack : Prop :=
  ∀ (tag : Nat) (s : State), s.Serves .o →
    let i := Instr.hold .o 4 tag
    (validTag tag = false → s.Answers i .o 0xC2 (.only .badField) s) ∧
    (validTag tag = true → s.findTag tag = none → s.Answers i .o 0xC2 (.only .noSuchPack) s) ∧
    (∀ n q, validTag tag = true → s.findTag tag = some (n, q) → s.pack? n = some q →
      (q.state = .onLoader ∨ q.state = .onTruck ∨
          (q.state = .reserved ∧ ∃ k, s.taskOf n = some k ∧ k.kind = .fetch ∧ k.state = .issued) →
        s.Answers i .o 0xC2 (.only .packMoving) s) ∧
      (q.state = .inbound ∨ q.state = .stored ∨ q.state = .lost ∨ q.state = .orphaned →
        s.Answers i .o 0xC2 (.held q.state none) { s with packs := Tab.put s.packs n { q with hold := true } }) ∧
      (∀ r, q.state = .reserved → q.reservation = some r →
        (∀ k, s.taskOf n = some k → ¬(k.kind = .fetch ∧ k.state = .issued)) →
        let w := State.lose (State.setHold (State.removeTaskOf { s with marks := {} } n) n true) n
        let u := w.settle
        s.Answers i .o 0xC2 (.held .stored (some r.slot)) u ∧
        u.pack? n = some { q with hold := true, reservation := none, state := .stored } ∧
        (s.taskOf n = none → w.tasks = s.tasks ∧ w.touches = s.touches ∧ w.loaders = s.loaders) ∧
        (∀ k, s.taskOf n = some k →
          w.tasks = s.tasks.filter (fun j => !(j.id == k.id)) ∧ w.touches = s.touches.filter (fun a => !(a.task == k.id)) ∧
          (k.state ≠ .issued → k.state ≠ .lifted → w.loaders = s.loaders) ∧
          (k.state = .issued ∨ k.state = .lifted →
            w.loaders = Tab.putD Loader.initial s.loaders k.loader
              { s.loader k.loader with current := none, previous := some ⟨k.id, .revoked⟩ }))))

/-- FREE clears the hold of a pack; where a hold was cleared on a STORED pack, the pack is passed on as new stock (R17). WRITE_OFF removes
the record of a LOST or ORPHANED pack and refuses every other (R18). -/
def Obligations.FreeAndWriteOffOnePack : Prop :=
  ∀ (tag : Nat) (s : State), s.Serves .o →
    (∀ i c, (i = Instr.free .o 4 tag ∧ c = 0xC3) ∨ (i = Instr.writeOff .o 4 tag ∧ c = 0xC4) →
      (validTag tag = false → s.Answers i .o c (.only .badField) s) ∧
      (validTag tag = true → s.findTag tag = none → s.Answers i .o c (.only .noSuchPack) s)) ∧
    (∀ n q, validTag tag = true → s.findTag tag = some (n, q) → s.pack? n = some q →
      (q.hold = false → s.Answers (.free .o 4 tag) .o 0xC3 (.freed q.state) s) ∧
      (q.hold = true → q.state ≠ .stored →
        s.Answers (.free .o 4 tag) .o 0xC3 (.freed q.state) { s with packs := Tab.put s.packs n { q with hold := false } }) ∧
      (q.hold = true → q.state = .stored →
        s.Answers (.free .o 4 tag) .o 0xC3 (.freed .stored)
          (State.settle (State.newStock { s with packs := Tab.put s.packs n { q with hold := false }, marks := {} } n))) ∧
      (q.state = .lost ∨ q.state = .orphaned →
        s.Answers (.writeOff .o 4 tag) .o 0xC4 (.only .ok) { s with packs := Tab.erase s.packs n } ∧
        State.pack? { s with packs := Tab.erase s.packs n } n = none) ∧
      (q.state ≠ .lost → q.state ≠ .orphaned → s.Answers (.writeOff .o 4 tag) .o 0xC4 (.only .wrongState) s))

/-- PACK_DEFINE writes attributes, pieces, volume and measured weight as given and sets identified; a STORED pack whose hold is no is
passed on as new stock (R19). -/
def Obligations.PackDefineWritesTheRecord : Prop :=
  ∀ (r : PackReq) (s : State), s.Serves .o →
    let i := Instr.packDefine .o 14 r
    (validTag r.tag = false ∨ PackReq.fieldsOk r = false → s.Answers i .o 0xC5 (.only .badField) s) ∧
    (validTag r.tag = true → PackReq.fieldsOk r = true → s.findTag r.tag = none → s.Answers i .o 0xC5 (.only .noSuchPack) s) ∧
    (∀ n q, validTag r.tag = true → PackReq.fieldsOk r = true → s.findTag r.tag = some (n, q) →
      let d : Pack := { q with
        attrs := r.attrs, pieces := r.pieces, volume := r.volume, measured := if r.hasWeight = 1 then some r.weight else none,
        identified := true }
      (q.state = .reserved ∨ q.state = .onLoader ∨ q.state = .onTruck → s.Answers i .o 0xC5 (.only .wrongState) s) ∧
      (q.state = .inbound ∨ q.state = .lost ∨ q.state = .orphaned ∨ (q.state = .stored ∧ q.hold = true) →
        s.Answers i .o 0xC5 (.only .ok) { s with packs := Tab.put s.packs n d }) ∧
      (q.state = .stored → q.hold = false →
        s.Answers i .o 0xC5 (.only .ok) (State.settle (State.newStock { s with packs := Tab.put s.packs n d, marks := {} } n))))

-- The tally station.

/-- PACK_IN (R58, R59): the four checks in their order, each refusal with the deck count; an accepted request creates the record in the
lowest free entry, appends the pack to the deck, judges MILL_HOLD, gives the deck's taskless packs their PUTs, and answers the pack's index,
its deck position, the deck count and its PUT's id or none. Under crossed marks, where R65 gives both outcomes, the line is asserted: the
model's choice (log 45). -/
def Obligations.PackInTalliesThePack : Prop :=
  ∀ (r : PackReq) (s : State), s.Serves .t →
    let i := Instr.packIn .t 14 r
    let count := s.deck.length
    let good := validTag r.tag = true ∧ PackReq.fieldsOk r = true
    (¬ good → s.Answers i .t 0xA0 (.deckRefusal .badField count) s) ∧
    (good → s.findTag r.tag ≠ none → s.Answers i .t 0xA0 (.deckRefusal .duplicateTag count) s) ∧
    (good → s.findTag r.tag = none → 4096 ≤ s.packs.length → s.Answers i .t 0xA0 (.deckRefusal .tableFull count) s) ∧
    (good → s.findTag r.tag = none → s.packs.length < 4096 → 12 ≤ s.occupancy →
      s.Answers i .t 0xA0 (.deckRefusal .deckFull count) { s with flags := s.flags ||| 0x0400#16 }) ∧
    (good → s.findTag r.tag = none → s.packs.length < 4096 → s.occupancy < 12 →
      let n := s.freePack
      let u := State.settle { s with
        packs := Tab.put s.packs n
          ⟨r.tag, r.attrs, r.pieces, r.volume, if r.hasWeight = 1 then some r.weight else none, s.clock.minute, none, .inbound, .deck,
            false, true, none, none, none⟩
        deck := s.deck ++ [n]
        pins := { s.pins with
          millHold := if s.millHigh ≤ count + 1 then true else if count + 1 ≤ s.millLow then false else s.pins.millHold }
        marks := { puts := true } }
      s.Answers i .t 0xA0 (.packIn ⟨n, count, count + 1, (u.taskOf n).map (·.id)⟩) u ∧
      (Tab.wf 4096 s.packs = true → n < 4096 ∧ s.pack? n = none ∧ ∀ j, j < n → s.pack? j ≠ none))

/-- DECK_PULL (R63): the three checks in their order; an accepted request removes the pack's PUT, takes the pack off the deck, where
MILL_HOLD is judged, and removes its record. The PUT is in the pool and in the orders no longer, its pending arrival ends as a space event,
and a loader that held it has no current task, its previous task the removed one, REVOKED (R121). Under crossed marks, where R65 gives both
outcomes, the line is asserted: the model's choice (log 45). -/
def Obligations.DeckPullTakesThePackOff : Prop :=
  ∀ (tag : Nat) (s : State), s.Serves .t →
    let i := Instr.deckPull .t 4 tag
    (validTag tag = false → s.Answers i .t 0xA1 (.only .badField) s) ∧
    (validTag tag = true → s.findTag tag = none → s.Answers i .t 0xA1 (.only .noSuchPack) s) ∧
    (∀ n q, validTag tag = true → s.findTag tag = some (n, q) →
      (q.state ≠ .inbound → s.Answers i .t 0xA1 (.only .noSuchPack) s) ∧
      (∀ k, q.state = .inbound → s.taskOf n = some k → k.state = .issued → s.Answers i .t 0xA1 (.only .packMoving) s) ∧
      (q.state = .inbound → (∀ k, s.taskOf n = some k → k.state ≠ .issued) →
        let w := State.erasePack (State.offDeck (State.removeTaskOf { s with marks := {} } n) n) n
        let u := w.settle
        s.Answers i .t 0xA1 (.deckPulled u.deck.length) u ∧
        u.deck = s.deck.filter (fun j => !(j == n)) ∧ u.pack? n = none ∧ (∀ j, j ≠ n → u.pack? j = s.pack? j) ∧
        (u.pins.millHold = if s.millHigh ≤ u.deck.length then true else if u.deck.length ≤ s.millLow then false else s.pins.millHold) ∧
        (s.taskOf n = none → w.tasks = s.tasks ∧ w.touches = s.touches ∧ w.loaders = s.loaders) ∧
        (∀ k, s.taskOf n = some k →
          w.tasks = s.tasks.filter (fun j => !(j.id == k.id)) ∧ w.touches = s.touches.filter (fun a => !(a.task == k.id)) ∧
          (∀ st, k.dest = .stack st → w.marks.space = true) ∧
          (k.state ≠ .lifted → w.loaders = s.loaders) ∧
          (k.state = .lifted →
            w.loaders = Tab.putD Loader.initial s.loaders k.loader
              { s.loader k.loader with current := none, previous := some ⟨k.id, .revoked⟩ }))))

-- The gate.

/-- ARRIVE's five checks, in their order, each refusal carrying the result code alone and changing nothing (R76). -/
def Obligations.ArriveIsRefusedInOrder : Prop :=
  ∀ (r : ArriveReq) (s : State), s.Serves .g →
    let i := Instr.arrive .g (12 + 10 * r.count) r
    let fields := ArriveReq.fieldsOk r = true
    let order := ArriveReq.orderOk r = true
    let payload := r.tare + s.margin < r.gross
    (¬ fields → s.Answers i .g 0x90 (.only .badField) s) ∧
    (fields → ¬ order → s.Answers i .g 0x90 (.only .badOrder) s) ∧
    (fields → order → ¬ payload → s.Answers i .g 0x90 (.only .noPayload) s) ∧
    (fields → order → payload → s.findVisit r.visit ≠ none → s.Answers i .g 0x90 (.only .duplicateVisit) s) ∧
    (fields → order → payload → s.findVisit r.visit = none → 24 ≤ s.trucks.length → s.Answers i .g 0x90 (.only .slotsFull) s)

/-- An accepted ARRIVE of a visit that no ORPHANED pack carries writes the record of R75 in the lowest free slot, queues the truck by R79,
judges admission and GATE_HOLD, and answers the slot, the state, the lane, the position, B, the packs attached and GATE_HOLD (R76). -/
def Obligations.ArriveWritesTheTruck : Prop :=
  ∀ (r : ArriveReq) (s : State), s.Serves .g → ArriveReq.fieldsOk r = true → ArriveReq.orderOk r = true →
    r.tare + s.margin < r.gross → s.findVisit r.visit = none → s.trucks.length < 24 → s.orphansOf r.visit = [] →
    let n := s.freeSlotNumber
    let seq := min 4294967295 (s.arrivals + 1)
    let t : Truck :=
      ⟨r.visit, r.cls == 1, false, seq, 0, r.tare, r.gross, r.gross - r.tare - s.margin, r.maxPacks, r.partialOk == 1,
        r.lines.map LineReq.toLine, .waiting, none, [], 0, 0, ⟨false, false, false, false, false⟩, none⟩
    let u := State.settle { s with
      arrivals := seq
      trucks := Tab.put s.trucks n t
      waiting := insertWaiting (Tab.put s.trucks n t) n t s.waiting
      marks := { gate := true, lanes := true } }
    s.Answers (.arrive .g (12 + 10 * r.count) r) .g 0x90 (.arrived (u.arriveView n 0)) u ∧
    t.shortfall = (r.lines.map (·.want)).sum ∧
    (Tab.wf 24 s.trucks = true → n < 24 ∧ s.truck? n = none ∧ ∀ j, j < n → s.truck? j ≠ none)

/-- A visit's orphans are exactly the ORPHANED packs that carry its number, each once, in ascending order of load sequence (R54, R78). An
accepted ARRIVE of a visit that ORPHANED packs carry attaches them in ascending order of load sequence before the truck is queued:
each is ON_TRUCK in the load stack with a load sequence from 1 up and a reservation without line of its estimate; L is the sum of the
estimates, B and N are raised to hold the load, and REENTRY is set, with BUDGET_RAISED where B was raised (R54, R78). -/
def Obligations.ReentryAttachesTheOrphans : Prop :=
  (∀ (visit : Nat) (s : State), Tab.wf 4096 s.packs = true →
    (∀ j, j ∈ s.orphansOf visit ↔ ∃ q, s.pack? j = some q ∧ q.state = .orphaned ∧ q.visit = some visit) ∧
    (s.orphansOf visit).Nodup ∧
    (s.orphansOf visit).Pairwise (fun a b => ∀ x y, s.pack? a = some x → s.pack? b = some y → x.loadSeq.getD 0 ≤ y.loadSeq.getD 0)) ∧
  ∀ (r : ArriveReq) (s : State), s.Serves .g → ArriveReq.fieldsOk r = true → ArriveReq.orderOk r = true →
    r.tare + s.margin < r.gross → s.findVisit r.visit = none → s.trucks.length < 24 → Tab.wf 4096 s.packs = true →
    s.orphansOf r.visit ≠ [] →
    let n := s.freeSlotNumber
    let orphans := s.orphansOf r.visit
    let sum := (orphans.map (fun j => ((s.pack? j).map s.estimate).getD 0)).sum
    let b := r.gross - r.tare - s.margin
    let w := State.enterTruck { s with marks := {} } n r
    let u := State.settle (w.queueTruck n)
    s.Answers (.arrive .g (12 + 10 * r.count) r) .g 0x90 (.arrived (u.arriveView n orphans.length)) u ∧
    (∃ t, w.truck? n = some t ∧ t.visit = r.visit ∧ t.state = .waiting ∧ t.load = orphans ∧ t.lastSeq = orphans.length ∧ t.est = sum ∧
      t.budget = max b sum ∧ t.maxPacks = max r.maxPacks orphans.length ∧ t.flags = ⟨false, false, false, decide (b < sum), true⟩) ∧
    (∀ (k j : Nat) (q : Pack), orphans[k]? = some j → s.pack? j = some q →
      w.pack? j = some { q with
        state := .onTruck, loc := .truck n, loadSeq := some (k + 1), reservation := some ⟨n, none, none, s.estimate q⟩ }) ∧
    (∀ j, j ∉ orphans → w.pack? j = s.pack? j)

/-- WEIGH's checks stand in the order of R154: each refusal changes nothing, and NOT_LOADED carries the truck's state. A WEIGH of a LOADED
truck records Gm and E, held within a signed 16-bit number (R56), and then releases it (R155), unloads it (R156) or
marks its tare (R158). A release frees the lane, judges admission and writes the shipment record of R163; the unload set is the shortest
part of the load from its top whose frozen estimates cover the excess, or the whole load. -/
def Obligations.WeighReleasesUnloadsOrMarks : Prop :=
  ∀ (visit gm : Nat) (s : State), s.Serves .g →
    let i := Instr.weigh .g 8 visit gm
    let good := validTag visit = true ∧ 1 ≤ gm ∧ gm ≤ 80000
    (¬ good → s.Answers i .g 0x91 (.only .badField) s) ∧
    (good → s.findVisit visit = none → s.Answers i .g 0x91 (.only .noSuchTruck) s) ∧
    (∀ slot t, good → s.findVisit visit = some (slot, t) → t.state ≠ .loaded → s.Answers i .g 0x91 (.notLoaded t.state) s) ∧
    (∀ slot t, good → s.findVisit visit = some (slot, t) → t.state = .loaded →
      let e : Int := max (-32768) (min 32767 ((gm : Int) - t.tare - t.est))
      (gm ≤ t.gross →
        s.Answers i .g 0x91 (.weighed ⟨false, gm, e, 0, 0, .released⟩)
          (State.settle (State.logShipment { s with
              trucks := Tab.put s.trucks slot { t with state := .released, lane := none, weigh := some ⟨gm, e⟩ }
              marks := { lanes := true } }
            ⟨t.visit, s.clock.minute, some gm, t.tare, t.est, some e, { t.flags with underrun := false }, t.load.flatMap s.shipEntry⟩))) ∧
      (t.gross < gm → t.load = [] →
        s.Answers i .g 0x91 (.weighed ⟨true, gm, e, gm - t.gross, 0, .loaded⟩) { s with
          trucks := Tab.put s.trucks slot { t with weigh := some ⟨gm, e⟩, flags := { t.flags with tareSuspect := true } }
          flags := s.flags ||| 0x0008#16 }) ∧
      (t.gross < gm → t.load ≠ [] →
        ∃ k, k ≤ t.load.length ∧
          (∀ j, j < k → ((t.load.reverse.take j).map s.frozen).sum < gm - t.gross) ∧
          (gm - t.gross ≤ ((t.load.reverse.take k).map s.frozen).sum ∨ k = t.load.length) ∧
          s.Answers i .g 0x91 (.weighed ⟨true, gm, e, gm - t.gross, k, .unloading⟩)
            (State.settle { s with
              trucks := Tab.put s.trucks slot { t with
                state := .unloading, partialOk := true, weigh := some ⟨gm, e⟩, flags := { t.flags with overweightCut := true } }
              returns := s.returns ++ (t.load.reverse.take k).map (fun j => ⟨slot, j⟩)
              flags := s.flags ||| 0x0008#16
              marks := { serve := true } })))

/-- GONE (R159 to R162): a RELEASED truck's packs are removed and its slot is freed. Any other truck is stripped: its plan's picks are
released, its FETCH, DIG and RETURN tasks that are not LIFTED removed, its returns to create emptied, the reservations of its FETCHes
released; then it is shipped with UNDERRUN, the record carrying L as it then stands and an entry for each pack of the load, and freed,
TRUCK_UNDERRUN set. ORPHANED packs of the visit are shipped with a record of their own, in which UNDERRUN is set, REENTRY is clear and the
other three flags are no (log 50, the model's choice); else there is no such truck. -/
def Obligations.GoneShipsWhatStandsThere : Prop :=
  ∀ (visit : Nat) (s : State), s.Serves .g →
    let i := Instr.gone .g 4 visit
    (validTag visit = false → s.Answers i .g 0x92 (.only .badField) s) ∧
    (validTag visit = true → s.findVisit visit = none → s.orphansOf visit = [] → s.Answers i .g 0x92 (.only .noSuchTruck) s) ∧
    (validTag visit = true → s.findVisit visit = none → s.orphansOf visit ≠ [] →
      let w := s.logShipment
        ⟨visit, s.clock.minute, none, 0, 0, none, ⟨true, false, false, false, false⟩, (s.orphansOf visit).flatMap s.orphanEntry⟩
      s.Answers i .g 0x92 (.gone none (s.orphansOf visit).length true)
        { w with packs := (s.orphansOf visit).foldl Tab.erase s.packs, flags := w.flags ||| 0x0010#16 }) ∧
    (∀ slot t, validTag visit = true → s.findVisit visit = some (slot, t) → s.truck? slot = some t → t.state = .released →
      let u := State.settle (State.freeSlot { s with packs := t.load.foldl Tab.erase s.packs, marks := {} } slot)
      s.Answers i .g 0x92 (.gone (some slot) t.load.length false) u ∧ (∀ j ∈ t.load, u.pack? j = none) ∧ u.truck? slot = none ∧
        u.shipLog = s.shipLog) ∧
    (∀ slot t, validTag visit = true → s.findVisit visit = some (slot, t) → s.truck? slot = some t → t.state ≠ .released →
      let written := !(t.state == .waiting && t.load.isEmpty)
      let v := State.stripTruck { s with marks := {} } slot
      let w := State.underrun { s with marks := {} } slot
      let u := w.settle
      s.Answers i .g 0x92 (.gone (some slot) t.load.length written) u ∧ (∀ j ∈ t.load, u.pack? j = none) ∧ u.truck? slot = none ∧
        u.flag .truckUnderrun = true ∧
        (written = false → u.shipLog = s.shipLog) ∧
        (∀ k ∈ v.tasks, k.truck = some slot → k.kind = .fetch ∨ k.kind = .dig ∨ k.kind = .ret → k.state = .lifted) ∧
        (∀ k ∈ v.tasks, ∃ j ∈ s.tasks, j.id = k.id) ∧
        (∀ k ∈ s.tasks, k.truck ≠ some slot ∨ k.state = .lifted ∨ k.kind = .put ∨ k.kind = .survey →
          (∀ j ∈ s.tasks, j.id = k.id → j = k) → ∃ j ∈ v.tasks, j.id = k.id) ∧
        (∀ r ∈ v.returns, r.slot ≠ slot) ∧ (v.truck? slot).map (·.load) = some t.load ∧
        (∀ j q, s.pack? j = some q → q.reservation ≠ none → (s.tasks.map (·.id)).Nodup →
          ((∃ k ∈ s.tasks, k.truck = some slot ∧ k.kind = .fetch ∧ k.pack = some j) ∨
            ∃ p, s.plan = some p ∧ p.slot = slot ∧ ∃ e ∈ p.picks, e.pack = j) →
          v.pack? j = some { q with reservation := none, state := if q.state = .reserved then .stored else q.state }) ∧
        (∀ j, (∀ k ∈ s.tasks, k.kind = .fetch → ∃ m, k.pack = some m ∧ m ≠ j) → (∀ p, s.plan = some p → ∀ e ∈ p.picks, e.pack ≠ j) → v.pack? j = s.pack? j) ∧
        (∀ k ∈ w.tasks, k.truck ≠ some slot) ∧ (∀ r ∈ w.returns, r.slot ≠ slot) ∧
        (written = true →
          ∃ d, u.shipLog.getLast? = some d ∧ d.visit = t.visit ∧ d.minute = s.clock.minute ∧ d.gm = none ∧ d.tare = t.tare ∧
            (v.truck? slot).map (·.est) = some d.est ∧ d.e = none ∧ d.flags = { t.flags with underrun := true } ∧
            d.entries = t.load.flatMap (fun j => match v.pack? j with
              | none => []
              | some q => [⟨q.tag, q.reservation.bind (·.line), q.reservation.bind (·.kind)⟩])))

/-- CANCEL on ports G and O (R89 to R91): the refusals in their order; a second CANCEL changes nothing; a WAITING truck's slot is freed at
once and its attached packs are ORPHANED again; a truck at a lane becomes CANCELLING, leaves the Plan Queue, loses its FETCH and DIG
tasks that are not LIFTED, the reservations of the FETCHes released, and has its plan in flight marked for abort. The answer's count of
packs to be returned is that of the load (log 30, the model's reading). -/
def Obligations.CancelUnwindsTheTruck : Prop :=
  ∀ (p : Port) (visit : Nat) (s : State), p = .g ∨ p = .o → s.Serves p →
    let i := Instr.cancel p 4 visit
    (validTag visit = false → s.Answers i p 0x93 (.only .badField) s) ∧
    (validTag visit = true → s.findVisit visit = none → s.Answers i p 0x93 (.only .noSuchTruck) s) ∧
    (∀ slot t, validTag visit = true → s.findVisit visit = some (slot, t) → s.truck? slot = some t →
      (t.state = .released → s.Answers i p 0x93 (.only .wrongState) s) ∧
      (t.state = .cancelling → s.Answers i p 0x93 (.cancelled slot (some .cancelling) t.load.length) s) ∧
      (t.state = .waiting →
        let w := t.load.foldl State.orphan { s with marks := {} }
        let u := State.settle (w.freeSlot slot)
        s.Answers i p 0x93 (.cancelled slot none 0) u ∧ u.truck? slot = none ∧ slot ∉ u.waiting ∧
          (∀ j q, j ∈ t.load → s.pack? j = some q →
            w.pack? j = some { q with state := .orphaned, loc := .none, reservation := none })) ∧
      (t.state ≠ .released → t.state ≠ .cancelling → t.state ≠ .waiting →
        let w := State.cancelAtLane { s with marks := {} } slot
        let u := State.settle w
        s.Answers i p 0x93 (.cancelled slot ((u.truck? slot).map (·.state)) t.load.length) u ∧
          (w.truck? slot).map (·.state) = some .cancelling ∧ (w.truck? slot).map (·.load) = some t.load ∧
          slot ∉ w.planQueue ∧ (∀ j, j ≠ slot → (j ∈ w.planQueue ↔ j ∈ s.planQueue)) ∧
          (∀ k ∈ w.tasks, k.truck = some slot → k.kind = .fetch ∨ k.kind = .dig → k.state = .lifted) ∧
          (∀ k ∈ s.tasks, ∀ j q, k.truck = some slot → k.kind = .fetch → k.state ≠ .lifted → k.pack = some j → s.pack? j = some q →
            q.state = .reserved → q.reservation ≠ none →
            w.pack? j = some { q with state := .stored, reservation := none }) ∧
          (s.planInFlight slot = true → w.plan.map (·.abort) = some true)))

-- The office: partial loads, loader modes, stocktake.

/-- PARTIAL (R94): the refusals in their order; accept partial becomes yes, and evaluation gives the truck's state where R87 applies it; on
a truck that has it already nothing changes. -/
def Obligations.PartialSetsAcceptPartial : Prop :=
  ∀ (visit : Nat) (s : State), s.Serves .o →
    let i := Instr.acceptPartial .o 4 visit
    (validTag visit = false → s.Answers i .o 0xC8 (.only .badField) s) ∧
    (validTag visit = true → s.findVisit visit = none → s.Answers i .o 0xC8 (.only .noSuchTruck) s) ∧
    (∀ slot t, validTag visit = true → s.findVisit visit = some (slot, t) → s.truck? slot = some t →
      (t.state = .cancelling ∨ t.state = .released → s.Answers i .o 0xC8 (.only .wrongState) s) ∧
      (t.state ≠ .cancelling → t.state ≠ .released → t.partialOk = true → s.Answers i .o 0xC8 (.acceptPartial t.state) s) ∧
      (t.state ≠ .cancelling → t.state ≠ .released → t.partialOk = false →
        let after :=
          if t.state = .planned ∨ t.state = .loading ∨ t.state = .stockWait ∨ t.state = .loaded then
            (if 0 < s.outstanding slot then (if t.load = [] then TruckState.planned else .loading)
            else if t.load = [] then .stockWait
            else .loaded)
          else t.state
        let u := State.settle (State.evaluate { s with trucks := Tab.put s.trucks slot { t with partialOk := true }, marks := {} } slot)
        s.Answers i .o 0xC8 (.acceptPartial after) u ∧ u.truck? slot = some { t with partialOk := true, state := after }))

/-- Evaluation gives the state of R87's table; an entry into LOADED sets TRUCK_LOADED and takes the slot out of the Plan Queue (R88); an
entry into STOCK_WAIT makes a replan request (R117); in the other five states it changes nothing. -/
def Obligations.EvaluationFollowsItsTable : Prop :=
  ∀ (slot : Nat) (t : Truck) (s : State), s.truck? slot = some t →
    let w := s.evaluate slot
    let n : TruckState :=
      if 0 < s.outstanding slot then (if t.load = [] then .planned else .loading)
      else if t.load = [] then .stockWait
      else if t.shortfall = 0 ∨ t.partialOk = true then .loaded
      else .stockWait
    let judged := t.state = .planned ∨ t.state = .loading ∨ t.state = .stockWait ∨ t.state = .loaded
    (¬ judged → w = s) ∧
    (judged →
      w.truck? slot = some { t with state := n } ∧ (∀ j, j ≠ slot → w.truck? j = s.truck? j) ∧ w.packs = s.packs ∧ w.tasks = s.tasks ∧
      (n = .loaded → t.state ≠ .loaded →
        w.flags = s.flags ||| 0x0002#16 ∧ w.planQueue = s.planQueue.filter (fun j => !(j == slot)) ∧ w.plan = s.plan) ∧
      (n = .stockWait → t.state ≠ .stockWait →
        w.flags = s.flags ∧
        (s.planInFlight slot = true → w.planQueue = s.planQueue ∧ w.plan.map (·.replanAfter) = some true) ∧
        (s.planInFlight slot = false → w.plan = s.plan ∧
          w.planQueue = if slot ∈ s.planQueue then s.planQueue else s.planQueue ++ [slot])) ∧
      (¬(n = .loaded ∧ t.state ≠ .loaded) → ¬(n = .stockWait ∧ t.state ≠ .stockWait) →
        w.flags = s.flags ∧ w.planQueue = s.planQueue ∧ w.plan = s.plan))

/-- LOADER_MODE (R149, R150): a loader above 7 or a mode other than the three is refused; the mode already set changes nothing; otherwise
the mode is written and the effective state judged. A loader that becomes OFFLINE keeps no current task: an ISSUED one is revoked, a LIFTED
one is removed, its pack LOST with its hold as it was and no reservation, and PACK_LOST set; the loader's previous task is REVOKED. The
answer carries the mode, the effective state after the request and the count of packs made lost: one exactly where the loader became
OFFLINE with a LIFTED task. A loader that goes down hands its QUEUED and WAIT_SPACE tasks, the one just revoked among them, to up loaders
of their zones where there are any (R145); one that comes up has the tasks held by down loaders judged likewise (R147); no other task
changes. -/
def Obligations.LoaderModeIsWritten : Prop :=
  ∀ (n mode : Nat) (s : State), s.Serves .o →
    let i := Instr.loaderMode .o 2 n mode
    (8 ≤ n ∨ 3 ≤ mode → s.Answers i .o 0xC9 (.only .badField) s) ∧
    (∀ m, n < 8 → OfficeMode.ofByte mode = some m →
      ((s.loader n).mode = m → s.Answers i .o 0xC9 (.loaderMode m (s.effective n) 0) s) ∧
      ((s.loader n).mode ≠ m →
        let w := (State.setMode { s with marks := {} } n m).1
        let u := w.settle
        let r := s.loader n
        let x : State := { s with loaders := Tab.putD Loader.initial s.loaders n { r with mode := m } }
        let moved (held : Sys2Proof.Machine.Task → Bool) (k : Sys2Proof.Machine.Task) : Sys2Proof.Machine.Task :=
          if (k.state = .queued ∨ k.state = .waitSpace) ∧ held k = true ∧ (x.effective (x.servingLoader k.zone)).up = true then
            { k with loader := x.servingLoader k.zone }
          else k
        let base : List Sys2Proof.Machine.Task :=
          match r.current.bind s.task? with
          | some k =>
            if k.state = .issued then s.tasks.map (fun j => if j.id = k.id then { j with state := .queued, timer := none } else j)
            else if k.state = .lifted then s.tasks.filter (fun j => !(j.id == k.id))
            else s.tasks
          | none => s.tasks
        let lost := if m = .offline ∧ ∃ k, (s.loader n).current.bind s.task? = some k ∧ k.state = .lifted then 1 else 0
        s.Answers i .o 0xC9 (.loaderMode m (effectiveOf m (s.loader n).linked) lost) u ∧
          (u.loader n).mode = m ∧ (u.loader n).linked = (s.loader n).linked ∧
          (lost = 1 → u.flag .packLost = true) ∧
          (m = .offline → r.linked = true → w.tasks = base.map (moved (fun k => k.loader == n))) ∧
          (m = .offline → r.linked = false → w.tasks = base) ∧
          (m ≠ .offline → r.mode = .offline → r.linked = true → w.tasks = s.tasks.map (moved (fun k => !(x.effective k.loader).up))) ∧
          (m ≠ .offline → r.mode ≠ .offline ∨ r.linked = false → w.tasks = s.tasks) ∧
          (∀ k, m = .offline → (s.loader n).current.bind s.task? = some k → k.loader = n → k.state = .issued ∨ k.state = .lifted →
            (u.loader n).current = none ∧ (u.loader n).previous = some ⟨k.id, .revoked⟩ ∧
            (k.state = .issued → ∀ j ∈ w.tasks, j.id = k.id → j.state = .queued ∧ j.timer = none) ∧
            (k.state = .lifted → w.task? k.id = none ∧
              ∀ p q, k.pack = some p → s.pack? p = some q →
                u.pack? p = some { q with state := .lost, loc := .none, reservation := none })) ∧
          (m = .offline → (s.loader n).current = none → (u.loader n).current = none) ∧
          (∀ j, j ≠ n → j < 8 → (u.loader j).mode = (s.loader j).mode)))

/-- STOCKTAKE (R39): a zone above 7 is refused, and so is a request while a stocktake is active; otherwise the record is cleared and begun,
each enabled stack of the scope gets a STOCKTAKE entry merged with the one it holds, the feeder runs and the end is judged. The answer
carries the number of those stacks. -/
def Obligations.StocktakeBegins : Prop :=
  ∀ (scope : Scope) (s : State), s.Serves .o →
    let i := Instr.stocktake .o 1 scope
    let inScope (id : Nat) : Bool := s.bayEnabled (id / 8) && (match scope with | .all => true | .zone z => s.bayZone (id / 8) == z)
    ((∃ z, scope = .zone z ∧ 7 < z) → s.Answers i .o 0xCA (.only .badField) s) ∧
    ((∀ z, scope = .zone z → z ≤ 7) → s.stocktake.active = true → s.Answers i .o 0xCA (.only .busy) s) ∧
    ((∀ z, scope = .zone z → z ≤ 7) → s.stocktake.active = false →
      let count := (List.range 512).countP inScope
      let w := State.beginStocktake { s with marks := {} } scope
      s.Answers i .o 0xCA (.stocktake count) w.settle ∧
        w.stocktake = ⟨true, some scope, count, 0, 0, 0, 0, 0⟩ ∧
        ∀ id, id < 512 →
          (inScope id = false → Tab.get? w.backlog id = Tab.get? s.backlog id) ∧
          (inScope id = true → Tab.get? w.backlog id = some ((Tab.get? s.backlog id).getD .stocktake)))


-- Settings (section 11.2).

/-- A CFG_SET is refused, changing nothing, where its kind or its index is outside Table 11-2, its value outside its kind's range, and where
the owning rule says so: a change of a bay's enabled, zone or tier limit while the bay is not empty (R27), a partner equal to the primary
(R28), marks that would meet (R66, R83). -/
def Obligations.CfgSetIsRefusedByItsOwningRule : Prop :=
  ∀ (i : Instr) (c : CfgReq) (s : State), cfgOf i = some c → c.port = .o → c.len = 4 → s.Serves .o →
    let Refused (r : Result) : Prop := s.Answers i .o 0xC0 (.only r) s
    let Busy (st : Nat) : Prop :=
      (s.stack st).list ≠ [] ∨ ∃ k ∈ s.tasks, k.source = .stack st ∨ k.dest = .stack st
    (SettingKind.ofNum c.kind = none → Refused .badField) ∧
    ∀ k, SettingKind.ofNum c.kind = some k →
      let v := c.value
      (k.count ≤ c.index → Refused .badField) ∧
      (c.index < k.count →
        (∀ top, (k, top) ∈ [(SettingKind.bayEnabled, 1), (.bayZone, 7), (.bayCovered, 1), (.zonePrimary, 7), (.deckZone, 7), (.uplift, 30),
            (.margin, 2000), (.millLow, 11), (.gateLow, 23), (.laneZone, 7), (.maxDigDepth, 3), (.portRate, 4)] →
          top < v → Refused .badField) ∧
        (∀ low top, (k, low, top) ∈ [(SettingKind.bayTierLimit, 1, 7), (.wetDwell, 1, 240), (.millHigh, 1, 12), (.gateHigh, 1, 24),
            (.ageLimit, 1, 240), (.laneCount, 1, 8), (.taskTimeout, 30, 1800), (.silenceLimit, 5, 120)] →
          v < low ∨ top < v → Refused .badField) ∧
        (k = .zonePartner → 7 < v → v ≠ 255 → Refused .badField) ∧
        (k = .route → 5 < v → v ≠ 255 → Refused .badField) ∧
        (k = .density → (0 < v ∧ v < 200) ∨ 1200 < v → Refused .badField) ∧
        (k.valueInRange v = true →
          (k = .bayEnabled ∨ k = .bayZone ∨ k = .bayTierLimit → s.setting k c.index ≠ v →
            (∃ n, n < 8 ∧ Busy (8 * c.index + n)) → Refused .bayOccupied) ∧
          (k = .zonePrimary → s.setting .zonePartner c.index = v → Refused .badField) ∧
          (k = .zonePartner → s.setting .zonePrimary c.index = v → v ≠ 255 → Refused .badField) ∧
          (k = .millHigh → v ≤ s.setting .millLow 0 → Refused .badField) ∧
          (k = .millLow → s.setting .millHigh 0 ≤ v → Refused .badField) ∧
          (k = .gateHigh → v ≤ s.setting .gateLow 0 → Refused .badField) ∧
          (k = .gateLow → s.setting .gateHigh 0 ≤ v → Refused .badField)))

/-- An accepted CFG_SET writes the working value of its item and no other, with the effects the owning rule states (R27, R28, R47, R66, R81,
R83, R86, R143), and gives the item to the write list by R187. The answer carries the item, the working value and whether a write of the
item is pending. A port rate takes effect at once on a port that is HUNTING, and on the answering port at its return to HUNTING (R167). A
CFG_SET is accepted where its value is in its kind's range and no refusal of the owning rules applies (R27, R28, R66, R83). A change of a
mill or gate mark has MILL_HOLD or GATE_HOLD judged against the new marks (R65, R82); one of the age limit promotes the NORMAL trucks in
WAITING that have waited the new limit, in ascending order of arrival sequence (R81; equal sequences by slot, log 46, the model's choice);
one of the silence limit has each timer at or past it expire, in ascending loader order (R143), a LINKED loader then becoming SILENT with
LOADER_LOST set and, if it was up, going down (R142, R145); one of a zone's primary or partner gives the zone's QUEUED and WAIT_SPACE tasks
that a down loader holds to the serving loader if it is up (R125, R148). -/
def Obligations.CfgSetWritesTheSetting : Prop :=
  (∀ (k : SettingKind) (index v : Nat) (s : State),
    (∀ top, (k, top) ∈ [(SettingKind.bayEnabled, 1), (.bayZone, 7), (.bayCovered, 1), (.zonePrimary, 7), (.deckZone, 7), (.uplift, 30),
        (.margin, 2000), (.millLow, 11), (.gateLow, 23), (.laneZone, 7), (.maxDigDepth, 3), (.portRate, 4)] → v ≤ top) →
    (∀ low top, (k, low, top) ∈ [(SettingKind.bayTierLimit, 1, 7), (.wetDwell, 1, 240), (.millHigh, 1, 12), (.gateHigh, 1, 24),
        (.ageLimit, 1, 240), (.laneCount, 1, 8), (.taskTimeout, 30, 1800), (.silenceLimit, 5, 120)] → low ≤ v ∧ v ≤ top) →
    (k = .zonePartner → v ≤ 7 ∨ v = 255) → (k = .route → v ≤ 5 ∨ v = 255) → (k = .density → v = 0 ∨ 200 ≤ v ∧ v ≤ 1200) →
    (k = .bayEnabled ∨ k = .bayZone ∨ k = .bayTierLimit → s.setting k index ≠ v →
      ∀ n, n < 8 → (s.stack (8 * index + n)).list = [] ∧
        ∀ j ∈ s.tasks, j.source ≠ .stack (8 * index + n) ∧ j.dest ≠ .stack (8 * index + n)) →
    (k = .zonePrimary → s.setting .zonePartner index ≠ v) → (k = .zonePartner → s.setting .zonePrimary index ≠ v) →
    (k = .millHigh → s.setting .millLow 0 < v) → (k = .millLow → v < s.setting .millHigh 0) →
    (k = .gateHigh → s.setting .gateLow 0 < v) → (k = .gateLow → v < s.setting .gateHigh 0) →
    s.cfgRefusal k index v = none) ∧
  (∀ s : State, Tab.wf 24 s.trucks = true →
    ∃ aged : List Nat,
      (∀ j, j ∈ aged ↔ ∃ r, s.truck? j = some r ∧ r.state = .waiting ∧ r.express = false ∧
        s.setting .ageLimit 0 * 60 ≤ r.waiting) ∧
      aged.Pairwise (fun a b => ∀ x y, s.truck? a = some x → s.truck? b = some y →
        x.arrivalSeq < y.arrivalSeq ∨ (x.arrivalSeq = y.arrivalSeq ∧ a < b)) ∧
      s.promoteAged = aged.foldl State.promote s) ∧
  (∀ (s : State) (j : Nat) (r : Truck), s.truck? j = some r → r.state = .waiting → r.express = false →
    let r' : Truck := { r with express := true, promoted := true, waiting := max r.waiting (s.setting .ageLimit 0 * 60) }
    s.promote j = { s with
      trucks := Tab.put s.trucks j r'
      waiting := insertWaiting (Tab.put s.trucks j r') j r' (s.waiting.filter (fun a => !(a == j)))
      marks := { s.marks with lanes := true } }) ∧
  (∀ s : State,
    s.expireSilent = ((List.range 8).filter (fun n =>
      (s.loader n).silence.any (fun e => decide (s.setting .silenceLimit 0 ≤ e)))).foldl State.silenceExpires s) ∧
  (∀ (s : State) (zone : Nat),
    let primary := s.setting .zonePrimary zone
    let partner := s.setting .zonePartner zone
    s.servingLoader zone =
      if (s.effective primary).up = true then primary
      else if partner ≠ 255 ∧ (s.effective partner).up = true then partner
      else primary) ∧
  (∀ (s : State) (n e : Nat), (s.loader n).silence = some e →
    let r := s.loader n
    let silent : State := { s with
      loaders := Tab.putD Loader.initial s.loaders n { r with linked := false, silence := none }
      flags := s.flags ||| 0x0080#16 }
    let moved (k : Sys2Proof.Machine.Task) : Sys2Proof.Machine.Task :=
      if (k.state = .queued ∨ k.state = .waitSpace) ∧ k.loader = n ∧ (silent.effective (silent.servingLoader k.zone)).up = true then
        { k with loader := silent.servingLoader k.zone }
      else k
    (r.linked = false → s.silenceExpires n = { s with
      loaders := Tab.putD Loader.initial s.loaders n { r with silence := none } }) ∧
    (r.linked = true → r.mode = .offline → s.silenceExpires n = silent) ∧
    (r.linked = true → r.mode ≠ .offline →
      ((∀ k, r.current.bind s.task? = some k → k.state ≠ .issued) →
        s.silenceExpires n = { silent with tasks := s.tasks.map moved }) ∧
      (∀ k, r.current.bind s.task? = some k → k.state = .issued → k.loader = n →
        s.silenceExpires n = { silent with
          loaders := Tab.putD Loader.initial s.loaders n
            { r with linked := false, silence := none, current := none, previous := some ⟨k.id, .revoked⟩ }
          tasks := (s.tasks.map (fun j => if j.id = k.id then { j with state := .queued, timer := none } else j)).map moved }))) ∧
  ∀ (i : Instr) (c : CfgReq) (k : SettingKind) (s : State), cfgOf i = some c → c.port = .o → c.len = 4 → s.Serves .o →
    SettingKind.ofNum c.kind = some k → c.index < k.count → s.cfgRefusal k c.index c.value = none →
    let old := s.setting k c.index
    let item := k.key c.index
    let begun := if s.writing then s.writeList.take 1 else []
    let waiting := if s.writing then s.writeList.drop 1 else s.writeList
    let list : List WriteEntry :=
      if waiting.any (fun e => e.item == item) then begun ++ waiting.map (fun e => if e.item = item then ⟨item, c.value⟩ else e)
      else if s.storedSetting k c.index ≠ c.value ∨ begun.any (fun e => e.item == item) = true then s.writeList ++ [⟨item, c.value⟩]
      else s.writeList
    let w : State := { s with working := writeSetting s.working k c.index c.value, writeList := list, marks := {} }
    let e : State :=
      if (k = .bayEnabled ∧ old = 0 ∧ c.value = 1) ∨ (k = .bayTierLimit ∧ old < c.value) then { w with marks := { space := true } }
      else if k = .zonePrimary ∨ k = .zonePartner then
        let serving := w.servingLoader c.index
        { w with tasks := s.tasks.map (fun j =>
            if (j.state = .queued ∨ j.state = .waitSpace) ∧ j.zone = c.index ∧ (w.effective j.loader).up = false ∧
                (w.effective serving).up = true then
              { j with loader := serving }
            else j) }
      else if k = .density ∧ old = 0 ∧ 0 < c.value then
        ((s.packs.filter (fun e => e.2.attrs.species * 4 + e.2.attrs.moisture == c.index && e.2.measured.isNone && e.2.identified)).map
          (·.1)).foldl State.passOn w
      else if k = .millHigh ∨ k = .millLow then
        { w with pins := { s.pins with
            millHold :=
              if w.millHigh ≤ s.deck.length then true else if s.deck.length ≤ w.millLow then false else s.pins.millHold } }
      else if k = .gateHigh ∨ k = .gateLow then
        { w with pins := { s.pins with
            gateHold :=
              if w.gateHigh ≤ s.waiting.length then true else if s.waiting.length ≤ w.gateLow then false else s.pins.gateHold } }
      else if k = .ageLimit then w.promoteAged
      else if k = .laneCount ∧ old < c.value then { w with marks := { lanes := true } }
      else if k = .silenceLimit then w.expireSilent
      else w
    let u := State.settle e
    let answer := Answer.cfgSet c.kind c.index c.value (list.any (fun e => e.item == item))
    (∀ k' j, j < k'.count → u.setting k' j = if k' = k ∧ j = c.index then c.value else s.setting k' j) ∧
    (k ≠ .portRate → s.Answers i .o 0xC0 answer u) ∧
    (k = .portRate →
      ∃ t, exec i s = .next t ∧ s.Settled t ∧ t.yard = u.yard ∧
        t.port .o = ⟨.answering, frameBytes 0x40 4 (cfgBody c.kind c.index c.value), false, some ⟨0xC0, answer⟩, (s.port .o).rate⟩ ∧
        ∀ q, q ≠ .o →
          t.port q = if portNum q = c.index ∧ (s.port q).cond = .hunting then { s.port q with rate := c.value } else s.port q)

-- The loaders (chapters 7 and 8).

/-- LIFT, PLACE and FAIL are refused BAD_FIELD where the tag, the place or the reason is out of range (R131, R133, R138); then, as for
PUT_BACK, which carries the id alone, and for SURVEY_REPORT before its own checks (R32), the task id is matched against the loader's
dispatch record (R130): an id that is not its current task is answered REVOKED, the answer already given, or NOT_YOUR_TASK, and changes
nothing but what the frame's arrival does (R142). -/
def Obligations.LoaderRequestsNameTheirTask : Prop :=
  ∀ (n : Fin 8) (id : Nat) (s : State), s.Works n →
    let h := s.hear (.l n)
    let Field (i : Instr) (c : Nat) : Prop := s.Answers i (.l n) c (.only .badField) h
    let Names (i : Instr) (req : TaskReq) (c : Nat) : Prop :=
      (s.loader n.val).current ≠ some id →
        ((s.loader n.val).previous = some ⟨id, .revoked⟩ → s.Answers i (.l n) c (.only .revoked) h) ∧
        (∀ a, (s.loader n.val).previous = some ⟨id, .ended req a⟩ → s.Answers i (.l n) c a h) ∧
        (∀ r a, (s.loader n.val).previous = some ⟨id, .ended r a⟩ → r ≠ req → s.Answers i (.l n) c (.only .notYourTask) h) ∧
        ((∀ o, (s.loader n.val).previous ≠ some ⟨id, o⟩) → s.Answers i (.l n) c (.only .notYourTask) h)
    (∀ tag, (validTag tag = false → Field (.lift (.l n) 6 id tag) 0xB2) ∧
      (validTag tag = true → Names (.lift (.l n) 6 id tag) .lift 0xB2)) ∧
    (∀ kind number,
      (kind ≠ 2 ∧ kind ≠ 3 ∨ kind = 2 ∧ 511 < number ∨ kind = 3 ∧ 7 < number → Field (.place (.l n) 5 id kind number) 0xB3) ∧
      (kind = 2 ∧ number ≤ 511 ∨ kind = 3 ∧ number ≤ 7 → Names (.place (.l n) 5 id kind number) .place 0xB3)) ∧
    Names (.putBack (.l n) 2 id) .putBack 0xB4 ∧
    (∀ reason, (1 < reason → Field (.fail (.l n) 3 id reason) 0xB5) ∧
      (reason ≤ 1 → Names (.fail (.l n) 3 id reason) .fail 0xB5)) ∧
    (∀ count tags, Names (.surveyReport (.l n) (3 + 4 * count) id count tags) .surveyReport 0xB6)

/-- NEXT (R128, R129): a current task is answered again, HOLD_PACK for a LIFTED task without a destination; a STOPPED loader is answered
STOPPED; otherwise the loader's QUEUED tasks are searched in creation order, displacing by R127, and the first issuable one is ISSUED with
its timer at 0 and the task timeout in force, the loader's previous task cleared; without one the answer is NO_TASK. A displacement ends a
FETCH's reservation as a loss, and the search goes on behind it. By R127 a QUEUED task is issuable when its destination is resolved, it
stands first in the order of its source and in that of its destination stack, and a PUT's pack is the deck head; a DIG or a FETCH is
displaced when it stands first at its stack and its pack is not the top. -/
def Obligations.NextOffersATask : Prop :=
  ∀ (n : Fin 8) (s : State), s.Works n →
    let h := s.hear (.l n)
    let i := Instr.next (.l n) 0
    let Mine (k : Sys2Proof.Machine.Task) : Prop := k.state = .queued ∧ k.loader = n.val
    let First (p : Place) (id : Nat) : Prop := (h.touches.find? (fun u => u.place == p)).map (·.task) = some id
    (∀ k, h.issuable k = true ↔ k.state = .queued ∧ k.dest ≠ .unresolved ∧ (∀ p ∈ k.source.places, First p k.id) ∧
      (∀ st, k.dest = .stack st → First (.stack st) k.id) ∧ (k.kind = .put → h.deck.head? = k.pack)) ∧
    (∀ k, h.displaced k = true ↔ (k.kind = .dig ∨ k.kind = .fetch) ∧ k.state = .queued ∧
      ∃ st, k.source = .stack st ∧ First (.stack st) k.id ∧ (h.stack st).list.getLast? ≠ k.pack) ∧
    (∀ id k, (s.loader n.val).current = some id → h.task? id = some k →
      s.Answers i (.l n) 0xB1 (.task (if k.state = .lifted ∧ k.dest = .unresolved then .holdPack else .ok) (h.taskView k)) h) ∧
    ((s.loader n.val).current = none → (s.loader n.val).mode = .stopped → s.Answers i (.l n) 0xB1 (.only .stopped) h) ∧
    ((s.loader n.val).current = none → (s.loader n.val).mode = .inService →
      ((∀ k ∈ h.tasks, Mine k → h.displaced k = false ∧ h.issuable k = false) → s.Answers i (.l n) 0xB1 (.only .noTask) h) ∧
      (∀ older k newer, h.tasks = older ++ k :: newer → (h.tasks.map (·.id)).Nodup → Mine k → h.displaced k = false →
        h.issuable k = true → (∀ j ∈ older, Mine j → h.displaced j = false ∧ h.issuable j = false) →
        s.Answers i (.l n) 0xB1 (.task .ok (h.taskView k)) { h with
          tasks := older ++ { k with state := .issued, timer := some ⟨0, s.setting .taskTimeout 0⟩ } :: newer
          loaders := Tab.putD Loader.initial h.loaders n.val { h.loader n.val with current := some k.id, previous := none } }) ∧
      (∀ k, (h.tasks.map (·.id)).Nodup → k ∈ h.tasks → Mine k → h.displaced k = true →
        (∀ j ∈ h.tasks, Mine j → j ≠ k → h.displaced j = false ∧ h.issuable j = false) →
        let w := State.displace { h with marks := {} } k
        (∀ j ∈ w.tasks, Mine j → w.displaced j = false ∧ w.issuable j = false) →
        s.Answers i (.l n) 0xB1 (.only .noTask) w.settle ∧ w.task? k.id = none ∧
          ∀ p q, k.pack = some p → s.pack? p = some q → q.state = .reserved → k.kind = .fetch → q.reservation ≠ none →
            w.pack? p = some { q with state := .stored, reservation := none }) ∧
      (∀ k a b c j y, (h.tasks.map (·.id)).Nodup → k ∈ h.tasks → h.displaced k = true →
        (h.tasks.filter (fun x => x.state == .queued && x.loader == n.val)).map (·.id) = a ++ k.id :: (b ++ j :: c) →
        (∀ x ∈ h.tasks, x.id ∈ a → h.displaced x = false ∧ h.issuable x = false) →
        let w := State.displace { h with marks := {} } k
        (∀ x ∈ w.tasks, x.id ∈ b → w.displaced x = false ∧ w.issuable x = false) →
        w.task? j = some y → w.displaced y = false → w.issuable y = true →
        let v : State := { w with
          tasks := w.tasks.map (fun x => if x.id = j then { x with state := .issued, timer := some ⟨0, s.setting .taskTimeout 0⟩ } else x)
          loaders := Tab.putD Loader.initial w.loaders n.val { w.loader n.val with current := some j, previous := none } }
        let u := v.settle
        w.task? k.id = none ∧ (u.loader n.val).current = some j ∧ (u.loader n.val).previous = none ∧
          ∃ z, u.task? j = some z ∧ z.state = .issued ∧ z.timer = some ⟨0, s.setting .taskTimeout 0⟩ ∧ z.kind = y.kind ∧
            z.pack = y.pack ∧ z.source = y.source ∧ z.dest = y.dest ∧
            s.Answers i (.l n) 0xB1 (.task .ok (u.taskView z)) u))

/-- LIFT of the current task with the tag of its pack (R131): the pack is taken off the top of its stack, the head of the deck or the top of
its truck's load, and is ON_LOADER; a FETCH keeps its reservation, a RETURN's goes into the task's kept reservation and L and the line's
filled count fall; the task is LIFTED and its timer runs on; MILL_HOLD is judged on the deck count after the lift of a PUT; the answer gives
the destination and its expected tier. A LIFT of a SURVEY, or of a LIFTED task with another tag, is refused; one with the same tag is
answered again. Under crossed marks, where R65 gives both outcomes, the line is asserted: the model's choice (log 45). -/
def Obligations.LiftTakesThePack : Prop :=
  ∀ (n : Fin 8) (id tag : Nat) (k : Sys2Proof.Machine.Task) (s : State), s.Works n → validTag tag = true →
    (s.loader n.val).current = some id →
    let h := s.hear (.l n)
    h.task? id = some k →
    let i := Instr.lift (.l n) 6 id tag
    (k.kind = .survey → s.Answers i (.l n) 0xB2 (.only .wrongState) h) ∧
    (∀ p q, k.kind ≠ .survey → k.pack = some p → s.pack? p = some q →
      (k.state = .lifted → q.tag ≠ tag → s.Answers i (.l n) 0xB2 (.only .wrongState) h) ∧
      (∀ g, k.state = .lifted → q.tag = tag → k.liftTarget = some g → s.Answers i (.l n) 0xB2 (.target .ok id g) h) ∧
      (k.state = .issued → q.tag = tag →
        let held : Pack := { q with state := .onLoader, loc := .loader n.val }
        let Lifts (v : State) (kept : Option Kept) : Prop :=
          s.Answers i (.l n) 0xB2 (.target .ok id (v.target k)) (State.settle { v with tasks := h.tasks.map (fun j =>
            if j.id = id then { j with state := .lifted, kept := kept, liftTarget := some (v.target k) } else j) })
        (k.kind = .put → k.source = .deck →
          let rest := s.deck.filter (fun j => !(j == p))
          Lifts { h with
            deck := rest, packs := Tab.put s.packs p held, marks := {}
            pins := { s.pins with millHold :=
              if s.millHigh ≤ rest.length then true else if rest.length ≤ s.millLow then false else s.pins.millHold } } none) ∧
        (∀ st, k.kind = .dig ∨ k.kind = .fetch → k.source = .stack st →
          Lifts { h with
            stackMap := Tab.putD Stack.bare s.stackMap st ⟨(s.stack st).list.filter (fun j => !(j == p)), (s.stack st).suspect⟩
            packs := Tab.put s.packs p held, marks := { space := true } } none) ∧
        (∀ m slot, k.kind = .ret → k.source = .lane m → k.truck = some slot →
          let unloaded := Tab.modify s.trucks slot (fun t => { t with load := t.load.filter (fun j => !(j == p)) })
          Lifts { h with
            trucks := match q.reservation with
              | none => unloaded
              | some r => Tab.modify unloaded r.slot (fun t => { t with
                  est := t.est - r.frozen
                  lines := match r.line with
                    | none => t.lines
                    | some l => t.lines.modify (l - 1) (fun x => { x with filled := x.filled - 1 }) })
            packs := Tab.put s.packs p { held with reservation := none, visit := none, loadSeq := none }
            marks := { watch := true } } (q.reservation.map (fun r => ⟨r, q.visit, q.loadSeq⟩)))))

/-- A task fails at a LIFT with another tag (R132) and at a FAIL with NOT_FOUND (R138): its pack leaves its source and is LOST, hold kept; a
source stack becomes suspect; a FETCH loses its reservation and a RETURN's pack what tied it to its truck; PACK_LOST is set; the task
leaves the pool, and the loader's previous task records the request and its answer (R121). At a deck mismatch another INBOUND pack that
holds the scanned tag moves to the head (R61). -/
def Obligations.FailedTaskLosesItsPack : Prop :=
  ∀ (n : Fin 8) (id p : Nat) (k : Sys2Proof.Machine.Task) (q : Pack) (s : State), s.Works n → Tab.wf 4096 s.packs = true →
    (s.loader n.val).current = some id →
    let h := s.hear (.l n)
    h.task? id = some k → k.loader = n.val → k.kind ≠ .survey → k.state = .issued → k.pack = some p → s.pack? p = some q →
    let w1 (tag : Nat) := State.mismatch { h with marks := {} } k tag
    let w2 := State.notFound { h with marks := {} } k
    (∀ tag, validTag tag = true → q.tag ≠ tag →
      s.Answers (.lift (.l n) 6 id tag) (.l n) 0xB2 (.only .mismatch) (State.settle (w1 tag))) ∧
    s.Answers (.fail (.l n) 3 id 1) (.l n) 0xB5 (.only .ok) w2.settle ∧
    (∀ w req a, (∃ tag, validTag tag = true ∧ q.tag ≠ tag ∧ w = w1 tag ∧ req = TaskReq.lift ∧ a = Answer.only .mismatch) ∨
        (w = w2 ∧ req = .fail ∧ a = .only .ok) →
      (∃ x, w.pack? p = some x ∧ x.state = .lost ∧ x.loc = .none ∧ x.hold = q.hold ∧ x.tag = q.tag ∧
        (k.kind = .fetch ∨ k.kind = .ret → x.reservation = none) ∧ (k.kind = .ret → x.visit = none ∧ x.loadSeq = none)) ∧
      (∀ j, j ≠ p → w.pack? j = s.pack? j) ∧
      (∀ st, k.source = .stack st →
        w.stack st = ⟨(s.stack st).list.filter (fun j => !(j == p)), true⟩ ∧ Tab.get? w.backlog st = some .suspect ∧
          w.flag .stackSuspect = true) ∧
      (∀ m slot t, k.source = .lane m → k.truck = some slot → s.truck? slot = some t → k.kind = .ret →
        (w.truck? slot).map (·.load) = some (t.load.filter (fun j => !(j == p)))) ∧
      w.flag .packLost = true ∧ w.task? id = none ∧ (w.loader n.val).current = none ∧
      (w.loader n.val).previous = some ⟨id, .ended req a⟩) ∧
    (k.source = .deck → w2.deck = s.deck.filter (fun j => !(j == p))) ∧
    (∀ tag, k.source = .deck → validTag tag = true → q.tag ≠ tag →
      (s.findTag tag = none → (w1 tag).deck = s.deck.filter (fun j => !(j == p))) ∧
      (∀ j x, s.findTag tag = some (j, x) →
        (x.state ≠ .inbound → (w1 tag).deck = s.deck.filter (fun j => !(j == p))) ∧
        (x.state = .inbound → (w1 tag).deck = j :: (s.deck.filter (fun j => !(j == p))).filter (fun a => !(a == j)))))

/-- PLACE (R133 to R136), the current task LIFTED: HOLD_PACK while its destination is unresolved, REDIRECT again for a converted task at its
source lane, BAD_FIELD at any other place than its destination; at its stack the pack is the new top and STORED, a PUT's with its
stored_at; at its lane it joins the load with its visit number and load sequence and evaluation follows. The task is done. A FETCH
without a truck is converted into a RETURN from its lane first, whatever place it names (R134): it leaves the lane's order and keeps its
place in that of the stack it was lifted from; that it then bars that stack to itself is the model's reading (log 16, DEDUCED). -/
def Obligations.PlaceSetsThePackDown : Prop :=
  ∀ (n : Fin 8) (id kind number p : Nat) (place : Place) (k : Sys2Proof.Machine.Task) (q : Pack) (s : State), s.Works n →
    (s.loader n.val).current = some id →
    let h := s.hear (.l n)
    h.task? id = some k → k.loader = n.val → k.kind ≠ .survey → k.pack = some p → s.pack? p = some q →
    (kind = 2 ∧ number ≤ 511 ∧ place = .stack number) ∨ (kind = 3 ∧ number ≤ 7 ∧ place = .lane number) →
    let i := Instr.place (.l n) 5 id kind number
    let stray := k.kind = .fetch ∧ k.truck = none ∧ ∃ m, k.dest = .lane m
    let again := k.converted = true ∧ k.source.places = [place]
    let done (w : State) : State := { w with
      tasks := w.tasks.filter (fun j => !(j.id == id))
      touches := w.touches.filter (fun u => !(u.task == id))
      loaders := Tab.putD Loader.initial w.loaders n.val
        { h.loader n.val with current := none, previous := some ⟨id, .ended .place (.only .ok)⟩ }
      marks := { w.marks with freed := true, watch := true, take := true } }
    (k.state ≠ .lifted → s.Answers i (.l n) 0xB3 (.only .wrongState) h) ∧
    (k.state = .lifted → ¬ stray →
      (k.dest = .unresolved → s.Answers i (.l n) 0xB3 (.only .holdPack) h) ∧
      (k.dest ≠ .unresolved → again → s.Answers i (.l n) 0xB3 (.target .redirect id (h.target k)) h) ∧
      (k.dest ≠ .unresolved → ¬ again → k.dest.places ≠ [place] → s.Answers i (.l n) 0xB3 (.only .badField) h) ∧
      (∀ st, ¬ again → place = .stack st → k.dest = .stack st →
        let v := done { h with
          stackMap := Tab.putD Stack.bare s.stackMap st ⟨(s.stack st).list ++ [p], (s.stack st).suspect⟩
          packs := Tab.put s.packs p { q with
            state := .stored, loc := .stack st, storedAt := if k.kind = .put then some s.clock.minute else q.storedAt }
          marks := {} }
        s.Answers i (.l n) 0xB3 (.only .ok) (State.settle (if q.hold = false then v.newStock p else v))) ∧
      (∀ m slot t, ¬ again → place = .lane m → k.dest = .lane m → k.truck = some slot → s.truck? slot = some t →
        let v := State.evaluate { h with
          trucks := Tab.put s.trucks slot { t with load := t.load ++ [p], lastSeq := t.lastSeq + 1 }
          packs := Tab.put s.packs p { q with
            state := .onTruck, loc := .truck slot, visit := some t.visit, loadSeq := some (t.lastSeq + 1) }
          marks := {} } slot
        s.Answers i (.l n) 0xB3 (.only .ok) (State.settle (done v)))) ∧
    (∀ m, k.state = .lifted → k.kind = .fetch → k.truck = none → k.dest = .lane m →
      let turned (d : Dest) : List Sys2Proof.Machine.Task := h.tasks.map (fun j =>
        if j.id = id then { j with kind := .ret, converted := true, source := .lane m, zone := s.laneZone m, dest := d } else j)
      let v : State := { h with
        tasks := turned .unresolved, touches := s.touches.filter (fun u => !(u.place == .lane m && u.task == id)), marks := {} }
      (∀ st, v.select ⟨.ret, p, .lane m, true⟩ = some st → (∀ j ∈ h.tasks, j.id = id → j = k) →
        s.Answers i (.l n) 0xB3 (.target .redirect id ⟨.stack st, (s.stack st).list.length⟩)
          { v with tasks := turned (.stack st), touches := v.touches ++ [⟨.stack st, id⟩] }) ∧
      (v.select ⟨.ret, p, .lane m, true⟩ = none →
        s.Answers i (.l n) 0xB3 (.only .holdPack) { v with flags := s.flags ||| 0x0800#16 }))

/-- PUT_BACK and FAIL with BLOCKED (R137, R138): a put-back pack is the head of the deck, the top of its source stack or of its truck's load
again, a RETURN's with what its lift had cleared; the task is QUEUED in its place with its timer stopped, and its loader records the request
with the answer OK. MILL_HOLD is judged on the deck count after the put-back of a PUT. A stack grown past its tier limit has its pending
arrivals re-resolved (R38); an ISSUED PUT of the deck head is revoked first; a FETCH of a CANCELLING truck is removed and its reservation
released (R92), and its loader records PUT_BACK answered OK for it, as for any put-back: the model's reading (log 18, DEDUCED). Under
crossed marks, where R65 gives both outcomes, the line is asserted: the model's choice (log 45). -/
def Obligations.PutBackAndBlockedRequeue : Prop :=
  ∀ (n : Fin 8) (id : Nat) (k : Sys2Proof.Machine.Task) (s : State), s.Works n → (s.loader n.val).current = some id →
    let h := s.hear (.l n)
    h.task? id = some k → k.loader = n.val → (∀ j ∈ h.tasks, j.id = id → j = k) →
    let i := Instr.putBack (.l n) 2 id
    let requeued (w : State) (req : TaskReq) : State := { w with
      tasks := w.tasks.map (fun j => if j.id = id then { j with state := .queued, timer := none, kept := none, liftTarget := none } else j)
      loaders := Tab.putD Loader.initial w.loaders n.val
        { h.loader n.val with current := none, previous := some ⟨id, .ended req (.only .ok)⟩ } }
    let relieved (st : Nat) (w : State) : State := if s.tierLimit (st / 8) < w.stackLoad st then w.reResolve st else w
    (k.state ≠ .lifted → s.Answers (.fail (.l n) 3 id 0) (.l n) 0xB5 (.only .ok) (requeued h .fail)) ∧
    (k.state = .lifted → s.Answers (.fail (.l n) 3 id 0) (.l n) 0xB5 (.only .wrongState) h) ∧
    (k.kind = .survey → s.Answers (.fail (.l n) 3 id 1) (.l n) 0xB5 (.only .badField) h) ∧
    (k.state ≠ .lifted ∨ k.converted = true ∨ ((k.kind = .fetch ∨ k.kind = .ret) ∧ k.truck = none) →
      s.Answers i (.l n) 0xB4 (.only .wrongState) h) ∧
    (∀ p q, k.state = .lifted → k.converted = false → k.pack = some p → s.pack? p = some q →
      (k.kind = .put → k.source = .deck →
        let b : State := { h with
          deck := p :: s.deck, packs := Tab.put s.packs p { q with state := .inbound, loc := .deck }, marks := {}
          pins := { s.pins with millHold :=
            if s.millHigh ≤ s.deck.length + 1 then true else if s.deck.length + 1 ≤ s.millLow then false else s.pins.millHold } }
        ((∀ j, s.deck.head?.bind h.taskOf = some j → ¬(j.kind = .put ∧ j.state = .issued)) →
          s.Answers i (.l n) 0xB4 (.only .ok) (requeued b .putBack)) ∧
        (∀ j, s.deck.head?.bind h.taskOf = some j → j.kind = .put → j.state = .issued → j.loader ≠ n.val →
          s.Answers i (.l n) 0xB4 (.only .ok) (requeued { b with
            tasks := h.tasks.map (fun x => if x.id = j.id then { x with state := .queued, timer := none } else x)
            loaders := Tab.putD Loader.initial h.loaders j.loader
              { h.loader j.loader with current := none, previous := some ⟨j.id, .revoked⟩ } } .putBack))) ∧
      (∀ st, k.kind = .dig ∨ (k.kind = .fetch ∧ k.truck ≠ none ∧ h.cancelling k = false) → k.source = .stack st →
        s.Answers i (.l n) 0xB4 (.only .ok) (State.settle (relieved st (requeued { h with
          stackMap := Tab.putD Stack.bare s.stackMap st ⟨(s.stack st).list ++ [p], (s.stack st).suspect⟩
          packs := Tab.put s.packs p { q with state := if k.kind = .fetch then .reserved else .stored, loc := .stack st }
          marks := {} } .putBack)))) ∧
      (∀ st r, k.kind = .fetch → k.truck ≠ none → h.cancelling k = true → k.source = .stack st → q.reservation = some r →
        let w := State.takeBack { h with marks := {} } n k
        s.Answers i (.l n) 0xB4 (.only .ok) w.settle ∧
          w.pack? p = some { q with state := .stored, loc := .stack st, reservation := none } ∧
          w.stack st = ⟨(s.stack st).list ++ [p], (s.stack st).suspect⟩ ∧ w.task? id = none ∧
          (w.loader n.val).current = none ∧ (w.loader n.val).previous = some ⟨id, .ended .putBack (.only .ok)⟩) ∧
      (∀ m slot c, k.kind = .ret → k.source = .lane m → k.truck = some slot → k.kept = some c →
        s.Answers i (.l n) 0xB4 (.only .ok) (requeued { h with
          trucks := Tab.modify (Tab.modify s.trucks slot (fun t => { t with load := t.load ++ [p] })) c.reservation.slot
            (fun t => { t with
              est := t.est + c.reservation.frozen
              lines := match c.reservation.line with
                | none => t.lines
                | some l => t.lines.modify (l - 1) (fun x => { x with filled := x.filled + 1 }) })
          packs := Tab.put s.packs p { q with
            state := .onTruck, loc := .truck slot, reservation := some c.reservation, visit := c.visit, loadSeq := c.loadSeq } }
          .putBack)))

/-- SURVEY_REPORT of the current SURVEY (R32 to R38): the refusals in their order; an accepted report rewrites the stack as the reported
packs in the reported order, no longer suspect and out of the Backlog; a pack of the stack stays as it was, one known elsewhere is STORED
here without reservation, an unknown tag gets a record in a free entry, and a pack not reported is LOST; the answer carries the four counts,
which a STOCKTAKE survey adds to the record (R40). A pack taken in leaves the place it was recorded in (R34): another stack's list, that
stack then suspect with a SUSPECT entry in the Backlog and STACK_SUSPECT set, or the deck, on whose count MILL_HOLD is judged. Its
unfinished task, and that of a pack not reported (R35), is in the pool and in the orders no longer; a loader that held it has no current
task, and its previous task is the removed one, REVOKED. Under crossed marks, where R65 gives both outcomes, the line is asserted: the
model's choice (log 45). -/
def Obligations.SurveyReportRewritesTheStack : Prop :=
  ∀ (n : Fin 8) (id count : Nat) (tags : List Nat) (k : Sys2Proof.Machine.Task) (s : State), s.Works n →
    (s.loader n.val).current = some id →
    let h := s.hear (.l n)
    h.task? id = some k → k.loader = n.val →
    let i := Instr.surveyReport (.l n) (3 + 4 * count) id count tags
    let known (g : Nat) : Option Nat := (s.findTag g).map (·.1)
    let listed := count = tags.length ∧ count ≤ 7 ∧ (∀ g ∈ tags, validTag g = true) ∧ tags.Nodup
    (k.kind ≠ .survey ∨ k.state ≠ .issued → s.Answers i (.l n) 0xB6 (.only .wrongState) h) ∧
    (∀ st, k.kind = .survey → k.state = .issued → k.source = .stack st →
      let kept (g : Nat) : Bool := (s.stack st).list.any (fun j => known g == some j)
      let aboard := ∃ g ∈ tags, ∃ j x, s.findTag g = some (j, x) ∧ x.state = .onTruck
      let fresh := tags.countP (fun g => (known g).isNone)
      (¬ listed → s.Answers i (.l n) 0xB6 (.only .badField) h) ∧
      (listed → aboard → s.Answers i (.l n) 0xB6 (.only .packMoving) h) ∧
      (listed → ¬ aboard → Tab.wf 4096 s.packs = true → 4096 < s.packs.length + fresh →
        s.Answers i (.l n) 0xB6 (.only .tableFull) h) ∧
      (listed → ¬ aboard → s.packs.length + fresh ≤ 4096 → Tab.wf 4096 s.packs = true → (∀ j ∈ (s.stack st).list, s.pack? j ≠ none) →
        let counts : SurveyCounts :=
          ⟨tags.countP kept, tags.countP (fun g => (known g).isSome && !kept g),
            (s.stack st).list.countP (fun j => !(tags.any (fun g => known g == some j))), fresh⟩
        let w := (State.report { h with marks := {} } k st tags).1
        s.Answers i (.l n) 0xB6 (.surveyed counts) w.settle ∧
        (∃ list, w.stack st = ⟨list, false⟩ ∧ list.length = tags.length ∧
          ∀ (m g j : Nat), tags[m]? = some g → list[m]? = some j →
            (∃ x, w.pack? j = some x ∧ x.tag = g) ∧
            (kept g = true → known g = some j ∧ w.pack? j = s.pack? j) ∧
            (∀ x, kept g = false → s.findTag g = some (j, x) →
              w.pack? j = some { x with state := .stored, loc := .stack st, reservation := none, visit := none, loadSeq := none }) ∧
            (known g = none → s.pack? j = none ∧
              w.pack? j = some ⟨g, ⟨0, 0, 0, 0, 0, 0, 0⟩, 1, 1, none, s.clock.minute, none, .stored, .stack st, true, false, none, none,
                none⟩)) ∧
        (∀ j x, j ∈ (s.stack st).list → s.pack? j = some x → (∀ g ∈ tags, known g ≠ some j) →
          w.pack? j = some { x with state := .lost, loc := .none, reservation := none }) ∧
        Tab.get? w.backlog st = none ∧ w.task? id = none ∧ (w.loader n.val).current = none ∧
        (w.loader n.val).previous = some ⟨id, .ended .surveyReport (.surveyed counts)⟩ ∧
        (k.reason = some .stocktake →
          w.stocktake = { s.stocktake with
            surveyed := s.stocktake.surveyed + 1
            found := min 4096 (s.stocktake.found + counts.found)
            moved := min 4096 (s.stocktake.moved + counts.moved)
            lost := min 4096 (s.stocktake.lost + counts.lost)
            created := min 4096 (s.stocktake.created + counts.created) }) ∧
        (k.reason = some .suspect → w.stocktake = s.stocktake) ∧
        (let takenIn (g : Nat) (test : Pack → Bool) : Bool := !kept g && (s.findTag g).any (fun e => test e.2)
        let inStack (other : Nat) (x : Pack) : Bool := x.loc == .stack other && (x.state == .stored || x.state == .reserved)
        let inbound (x : Pack) : Bool := x.state == .inbound
        (∀ other, other ≠ st →
          w.stack other =
            ⟨(s.stack other).list.filter (fun a => !(tags.any (fun g => takenIn g (inStack other) && known g == some a))),
              (s.stack other).suspect || tags.any (fun g => takenIn g (inStack other))⟩ ∧
          (tags.any (fun g => takenIn g (inStack other)) = true →
            Tab.get? w.backlog other = some .suspect ∧ w.flag .stackSuspect = true)) ∧
        w.deck = s.deck.filter (fun a => !(tags.any (fun g => takenIn g inbound && known g == some a))) ∧
        (tags.any (fun g => takenIn g inbound) = false → w.pins.millHold = s.pins.millHold) ∧
        (tags.any (fun g => takenIn g inbound) = true → (s.millHigh ≤ s.deck.length → s.pins.millHold = true) →
          w.pins.millHold =
            if s.millHigh ≤ w.deck.length then true else if w.deck.length ≤ s.millLow then false else s.pins.millHold) ∧
        (∀ j y, (∃ g ∈ tags, known g = some j ∧ kept g = false) ∨ (j ∈ (s.stack st).list ∧ ∀ g ∈ tags, known g ≠ some j) →
          h.taskOf j = some y →
          w.task? y.id = none ∧ (∀ u ∈ w.touches, u.task ≠ y.id) ∧
            (y.state = .issued ∨ y.state = .lifted → y.loader ≠ n.val → (h.tasks.map (·.id)).Nodup →
              (∀ z ∈ h.tasks, z.state = .issued ∨ z.state = .lifted → z.loader = y.loader → z = y) →
              w.loader y.loader = { h.loader y.loader with current := none, previous := some ⟨y.id, .revoked⟩ })))))

-- Timers and supervision.

/-- PROMOTION makes a NORMAL truck in WAITING a promoted EXPRESS truck, moves it in the queue and has admission judged; it changes nothing
for any other slot (R80). A task timer expires once: an ISSUED task is revoked and TASK_TIMEOUT set, for a LIFTED task TASK_OVERDUE is set
and nothing else changes (R139). The model's own choices: the elapsed seconds of a LIFTED task's timer stay at its timeout after the expiry
(log 53); the rows carry no time, so an expiry takes effect whatever has elapsed, the waiting time being raised to the age limit (log 4);
and a row without its object changes nothing (log 27). -/
def Obligations.TimersExpire : Prop :=
  ∀ s : State,
    (∀ slot t, s.truck? slot = some t → t.state = .waiting → t.express = false →
      let t' : Truck := { t with express := true, promoted := true, waiting := max t.waiting (s.ageLimit * 60) }
      s.Does (.promotion slot) (State.settle { s with
        trucks := Tab.put s.trucks slot t'
        waiting := insertWaiting (Tab.put s.trucks slot t') slot t' (s.waiting.filter (fun j => !(j == slot)))
        marks := { lanes := true } })) ∧
    (∀ slot, (∀ t, s.truck? slot = some t → t.state ≠ .waiting ∨ t.express = true) → s.Does (.promotion slot) s) ∧
    (∀ id k m, s.task? id = some k → k.timer = some m → m.elapsed < m.timeout →
      (k.state = .issued → s.Does (.taskTimerExpiry id) { s with
        tasks := s.tasks.map (fun j => if j.id = id then { j with state := .queued, timer := none } else j)
        loaders := Tab.putD Loader.initial s.loaders k.loader
          { s.loader k.loader with current := none, previous := some ⟨id, .revoked⟩ }
        flags := s.flags ||| 0x0020#16 }) ∧
      (k.state = .lifted → s.Does (.taskTimerExpiry id) { s with
        tasks := s.tasks.map (fun j => if j.id = id then { j with timer := some ⟨m.timeout, m.timeout⟩ } else j)
        flags := s.flags ||| 0x0040#16 })) ∧
    (∀ id, (∀ k, s.task? id = some k → ∀ m, k.timer = some m → m.timeout ≤ m.elapsed) → s.Does (.taskTimerExpiry id) s)

/-- A silence timer's expiry makes a LINKED loader SILENT and sets LOADER_LOST (R142); a loader that was up goes down: its ISSUED task is
revoked, its QUEUED and WAIT_SPACE tasks go to an up loader of their zones where there is one (R145), a LIFTED task stays with it (R146).
A valid frame makes a loader LINKED; one that was down and not OFFLINE comes up, and the tasks held by down loaders are judged likewise
(R147). Nothing else changes. The model's own choices: the row carries no time, so the expiry takes effect at any elapsed time (log 4), and a
timer that does not run changes nothing (log 27). -/
def Obligations.LoadersGoDownAndComeUp : Prop :=
  ∀ (n : Fin 8) (s : State),
    let r := s.loader n.val
    let i := Instr.silenceTimerExpiry n
    let silent : State := { s with
      loaders := Tab.putD Loader.initial s.loaders n.val { r with linked := false, silence := none }, flags := s.flags ||| 0x0080#16 }
    let moved (w : State) (held : Sys2Proof.Machine.Task → Bool) (k : Sys2Proof.Machine.Task) : Sys2Proof.Machine.Task :=
      if (k.state = .queued ∨ k.state = .waitSpace) ∧ held k = true ∧ (w.effective (w.servingLoader k.zone)).up = true then
        { k with loader := w.servingLoader k.zone }
      else k
    (r.silence = none → s.Does i s) ∧
    (∀ e, r.silence = some e →
      (r.linked = false → s.Does i { s with loaders := Tab.putD Loader.initial s.loaders n.val { r with silence := none } }) ∧
      (r.linked = true → r.mode = .offline → s.Does i silent) ∧
      (r.linked = true → r.mode ≠ .offline →
        ((∀ k, r.current.bind s.task? = some k → k.state ≠ .issued) →
          s.Does i { silent with tasks := s.tasks.map (moved silent (fun k => k.loader == n.val)) }) ∧
        (∀ k, r.current.bind s.task? = some k → k.state = .issued → k.loader = n.val →
          s.Does i { silent with
            loaders := Tab.putD Loader.initial s.loaders n.val
              { r with linked := false, silence := none, current := none, previous := some ⟨k.id, .revoked⟩ }
            tasks := (s.tasks.map (fun j => if j.id = k.id then { j with state := .queued, timer := none } else j)).map
              (moved silent (fun k => k.loader == n.val)) }))) ∧
    s.hear (.l n) =
      (let heard : State := { s with
        loaders := Tab.putD Loader.initial s.loaders n.val { r with linked := true, silence := some 0 } }
      if r.linked = false ∧ r.mode ≠ .offline then
        { heard with tasks := s.tasks.map (moved heard (fun k => !(heard.effective k.loader).up)) }
      else heard)

/-- The serving loader of a zone is its primary while that is up, else its partner while that is up, else its primary (R125). The id of a new
task is the first after the last one given, from 65,535 back to 1, that no task of the pool holds; 0 is not given (R120). A task created
stands last in creation order and in the orders of its source and its destination, with its zone's serving loader (R124 to R126).
A creator other than the Plan Engine takes an entry while one is free, or 97 are while a plan is in flight (R100): a listed return gets
its RETURN and a deck pack without a task its PUT, in WAIT_SPACE with NO_SPACE set where the Selector answers none (R62, R70, R92), the
returns in the order they joined and the deck from its head (R122). The feeder gives a SURVEY to the lowest SUSPECT entry, else the
lowest STOCKTAKE entry, of the stacks without one, while the pool has 97 free entries and fewer than 16 SURVEYs, until it can give no
more (R30). -/
def Obligations.TaskIsCreatedAtTheTail : Prop :=
  ∀ (kind : TaskKind) (pack : Option Nat) (source : Source) (dest : Dest) (truck : Option Nat) (zone : Nat) (reason : Option Reason)
      (s : State), s.tasks.length ≤ 512 → s.lastId ≤ 65535 →
    let used (m : Nat) : Prop := ∃ k ∈ s.tasks, k.id = m
    let primary := s.setting .zonePrimary zone
    let partner := s.setting .zonePartner zone
    let serving :=
      if (s.effective primary).up = true then primary
      else if partner ≠ 255 ∧ (s.effective partner).up = true then partner
      else primary
    let mayCreate := if s.plan = none then s.tasks.length < 512 else s.tasks.length + 97 ≤ 512
    let sought (v : State) (k : TaskKind) (j : Nat) (from_ : Source) (slot : Option Nat) (z : Nat) : State :=
      match v.select ⟨k, j, from_, false⟩ with
      | some d => v.addTask k (some j) from_ (.stack d) slot z none
      | none => { v.addTask k (some j) from_ .unresolved slot z none with flags := s.flags ||| 0x0800#16 }
    (∃ id, 1 ≤ id ∧ id ≤ 65535 ∧ ¬ used id ∧
      (s.lastId < id → ∀ m, s.lastId < m → m < id → used m) ∧
      (id ≤ s.lastId → (∀ m, s.lastId < m → m ≤ 65535 → used m) ∧ ∀ m, 1 ≤ m → m < id → used m) ∧
      s.addTask kind pack source dest truck zone reason = { s with
        lastId := id
        tasks := s.tasks ++ [⟨id, kind, pack, source, dest, truck, false, zone, serving,
          if dest = .unresolved then .waitSpace else .queued, none, reason, none, none⟩]
        touches := s.touches ++ (source.places ++ dest.places).map (fun p => ⟨p, id⟩) }) ∧
    (∀ r : ReturnEntry,
      (¬ mayCreate → s.serveReturn r = s) ∧
      (∀ t lane, mayCreate → s.truck? r.slot = some t → t.lane = some lane →
        s.serveReturn r = sought { s with returns := s.returns.filter (fun e => !(e == r)) } .ret r.pack (.lane lane) (some r.slot)
          (s.setting .laneZone lane))) ∧
    s.serveReturns = s.returns.foldl State.serveReturn s ∧
    (∀ j, (¬ mayCreate ∨ s.taskOf j ≠ none → s.servePut j = s) ∧
      (mayCreate → s.taskOf j = none → s.servePut j = sought s .put j .deck none (s.setting .deckZone 0))) ∧
    s.servePuts = s.deck.foldl State.servePut s ∧
    (let surveyed (st : Nat) : Prop := ∃ k ∈ s.tasks, k.kind = .survey ∧ k.source = .stack st
    let may := s.cond = .ready ∧ s.tasks.countP (fun k => k.kind == .survey) < 16 ∧ s.tasks.length + 97 ≤ 512
    (¬ may → s.feedOne = s) ∧ ((∀ e ∈ s.backlog, surveyed e.1) → s.feedOne = s) ∧
    (∀ st r, may → Tab.wf 512 s.backlog = true → Tab.get? s.backlog st = some r → ¬ surveyed st →
      (∀ e ∈ s.backlog, ¬ surveyed e.1 → (e.2 = r → st ≤ e.1) ∧ (e.2 = .suspect → r = .suspect)) →
      s.feedOne = State.addTask { s with backlog := Tab.erase s.backlog st, marks := { s.marks with take := true } } .survey none
        (.stack st) .absent none (s.setting .bayZone (st / 8)) (some r)) ∧
    s.feed.feedOne = s.feed)

/-- The Put-Away Selector (R67 to R69). It answers none only where no stack is eligible, else an eligible stack: a like stack before any
other, then the one of the lowest height plus pending arrivals, then of the lowest id. A DIG asks in the zone of its source stack, that
stack left out; a RETURN in its lane's zone first, then in any; a PUT in any. After a space event every task in WAIT_SPACE, and every LIFTED
one without a destination, asks again in creation order (R72); an answer is its destination, it joins that stack's order, and WAIT_SPACE
becomes QUEUED. The re-resolution of an overfull stack clears the destinations resolved to it and has each of those tasks ask anew in
creation order; one that stays without is in WAIT_SPACE if it was QUEUED, and NO_SPACE is set (R38, R70). The effective top of a stack is
the pack of the task that last came to be bound for it, else, with no task bound for it, the top pack of its list (R69). A LIFTED request is
given no stack that a task touches (R68); that a FETCH converted at PLACE touches the stack it was lifted from, in whose order it stands,
and so bars it, is the model's reading (log 16, DEDUCED). -/
def Obligations.SelectorFollowsItsPreference : Prop :=
  ∀ (pack : Nat) (lifted : Bool) (s : State),
    (∀ st,
      let bound (u : Touch) : Prop := u.place = .stack st ∧ ∃ k, s.task? u.task = some k ∧ k.dest = .stack st
      ((∀ u ∈ s.touches, ¬ bound u) → s.effectiveTop st = (s.stack st).list.getLast?) ∧
      (∀ older u newer k, s.touches = older ++ u :: newer → bound u → (∀ v ∈ newer, ¬ bound v) → s.task? u.task = some k →
        s.effectiveTop st = k.pack)) ∧
    let room (id : Nat) : Prop :=
      id < 512 ∧ s.setting .bayEnabled (id / 8) = 1 ∧ (s.stack id).suspect = false ∧
        (s.stack id).list.length + s.pendingArrivals id < s.tierLimit (id / 8) ∧
        (∀ j ∈ (s.stack id).list, ∀ q, s.pack? j = some q → q.state ≠ .reserved) ∧
        (lifted = true → ∀ t ∈ s.touches, t.place ≠ .stack id)
    let weight (id : Nat) : Nat := (s.stack id).list.length + s.pendingArrivals id
    let like (id : Nat) : Prop := ∃ p q, (s.effectiveTop id).bind s.pack? = some q ∧ s.pack? pack = some p ∧
      q.attrs.species = p.attrs.species ∧ q.attrs.grade = p.attrs.grade ∧ q.attrs.thickness = p.attrs.thickness ∧
      q.attrs.width = p.attrs.width ∧ q.attrs.length = p.attrs.length ∧ q.attrs.treatment = p.attrs.treatment
    let Best (eligible : Nat → Prop) (a : Option Nat) : Prop :=
      (a = none → ∀ e, ¬ eligible e) ∧
      ∀ d, a = some d → eligible d ∧ ∀ e, eligible e → (like e → like d) ∧
        ((like e ↔ like d) → weight d < weight e ∨ (weight d = weight e ∧ d ≤ e))
    let zone (id : Nat) : Nat := s.setting .bayZone (id / 8)
    Best room (s.select ⟨.put, pack, .deck, lifted⟩) ∧
    (∀ src, Best (fun id => room id ∧ zone id = zone src ∧ id ≠ src) (s.select ⟨.dig, pack, .stack src, lifted⟩)) ∧
    (∀ lane, (∃ e, room e ∧ zone e = s.setting .laneZone lane) →
      Best (fun id => room id ∧ zone id = s.setting .laneZone lane) (s.select ⟨.ret, pack, .lane lane, lifted⟩)) ∧
    (∀ lane, (∀ e, room e → zone e ≠ s.setting .laneZone lane) → Best room (s.select ⟨.ret, pack, .lane lane, lifted⟩)) ∧
    (let ask (k : Sys2Proof.Machine.Task) : Option Nat := s.select ⟨k.kind, k.pack.getD 0, k.source, k.state == .lifted⟩
    let given (id d : Nat) : State := { s with
      tasks := s.tasks.map (fun j =>
        if j.id = id then { j with dest := .stack d, state := if j.state = .waitSpace then .queued else j.state } else j)
      touches := s.touches ++ [⟨.stack d, id⟩] }
    (∀ id k, s.task? id = some k →
      (ask k = none → s.retryTask id = s ∧
        s.resolveAnew id = { s with
          tasks := s.tasks.map (fun j =>
            if j.id = id then { j with state := if j.state = .queued then .waitSpace else j.state } else j)
          flags := s.flags ||| 0x0800#16 }) ∧
      (∀ d, ask k = some d → s.retryTask id = given id d ∧ s.resolveAnew id = given id d)) ∧
    s.retry =
      ((s.tasks.filter (fun k => k.state == .waitSpace || (k.state == .lifted && k.dest == .unresolved))).map (·.id)).foldl
        State.retryTask s) ∧
    (∀ st,
      let bound := (s.tasks.filter (fun k => k.dest == .stack st)).map (·.id)
      s.reResolve st = bound.foldl State.resolveAnew { s with
        tasks := s.tasks.map (fun k => if k.dest = .stack st then { k with dest := .unresolved } else k)
        touches := s.touches.filter (fun u => !(u.place == .stack st && bound.contains u.task))
        marks := { s.marks with space := s.marks.space || !bound.isEmpty } } ∧
      s.relieve st = if s.tierLimit (st / 8) < (s.stack st).list.length + s.pendingArrivals st then s.reResolve st else s)

/-- A truck joins the Waiting Queue after every truck that stands ahead of it, EXPRESS before NORMAL and by arrival sequence within a class,
and behind those of equal standing (R79): an ordered queue stays ordered, and gains the slot and nothing else. Admission takes the head of
the queue, while the yard is READY, to the lowest-numbered lane in use that no truck holds: the truck is ADMITTED, holds the lane, stands at
the tail of the Plan Queue, and TRUCK_CALLED is set; it goes on until the queue is empty or every lane in use is held (R84, R85). GATE_HOLD
is asserted at or above the high mark, else released at or below the low mark, else as it was (R82); under crossed marks, which the rule
leaves open, asserting comes first (log 45, the model's choice). -/
def Obligations.WaitingQueueStaysInOrder : Prop :=
  (∀ (trucks : List (Nat × Truck)) (slot : Nat) (t : Truck) (queue : List Nat), Tab.get? trucks slot = some t →
    (∀ j ∈ queue, (Tab.get? trucks j).isSome = true) →
    let ahead (a b : Nat) : Prop := ∀ u v, Tab.get? trucks a = some u → Tab.get? trucks b = some v →
      (u.express = true ∧ v.express = false) ∨ (u.express = v.express ∧ u.arrivalSeq ≤ v.arrivalSeq)
    queue.Pairwise ahead →
    let after := insertWaiting trucks slot t queue
    after.Pairwise ahead ∧ after.Perm (slot :: queue) ∧
      ∃ front back, after = front ++ slot :: back ∧ queue = front ++ back ∧
        ∀ j ∈ back, ∀ u, Tab.get? trucks j = some u →
          (t.express = true ∧ u.express = false) ∨ (t.express = u.express ∧ t.arrivalSeq < u.arrivalSeq)) ∧
  (∀ s : State, Tab.wf 24 s.trucks = true →
    let held (v : State) (lane : Nat) : Prop := ∃ slot t, v.truck? slot = some t ∧ t.lane = some lane
    (∀ slot rest t lane, s.waiting = slot :: rest → s.truck? slot = some t → s.cond = .ready → lane < s.setting .laneCount 0 →
      ¬ held s lane → (∀ l, l < lane → held s l) →
      s.admitOne = { s with
        waiting := rest.filter (fun j => !(j == slot))
        trucks := Tab.put s.trucks slot { t with lane := some lane, state := .admitted }
        planQueue := if slot ∈ s.planQueue ∨ s.planInFlight slot = true then s.planQueue else s.planQueue ++ [slot]
        flags := s.flags ||| 0x0001#16
        marks := { s.marks with
          gate := true
          engine := s.marks.engine || !(s.planQueue.contains slot || s.planInFlight slot) } }) ∧
    (s.waiting = [] ∨ s.cond ≠ .ready ∨ (∀ l, l < s.setting .laneCount 0 → held s l) → s.admitOne = s ∧ s.admission = s) ∧
    ((∀ slot ∈ s.waiting, ∃ t, s.truck? slot = some t ∧ t.lane = none) → s.setting .laneCount 0 ≤ 8 →
      (s.cond = .ready → s.admission.waiting = [] ∨ ∀ l, l < s.setting .laneCount 0 → held s.admission l) ∧
      ∃ called : List Nat, s.waiting.filter (fun j => !(called.contains j)) = s.admission.waiting ∧
        (∀ j, j ∉ called → s.admission.truck? j = s.truck? j) ∧
        ∀ j ∈ called, ∀ t, s.truck? j = some t → ∃ lane, lane < s.setting .laneCount 0 ∧ ¬ held s lane ∧
          s.admission.truck? j = some { t with lane := some lane, state := .admitted })) ∧
  (∀ s : State,
    let high := s.setting .gateHigh 0
    let low := s.setting .gateLow 0
    let count := s.waiting.length
    s.judgeGate = { s with pins := { s.pins with
      gateHold := if high ≤ count then true else if count ≤ low then false else s.pins.gateHold } })

/-- The end of a reservation (R10): it is cleared, a RESERVED pack becomes STORED in place, L falls by the frozen estimate and the line's
filled count by one, the pick leaves the plan, and its stack keeps its place in the plan's order while another pick remains in it (log 43).
A release does no more; after a loss the truck receives a replan request, and is evaluated unless its plan is in flight (R110, R116). A
replan request is handled by the truck's standing as R116's table has it. New stock makes one for each truck that is plannable, short
without accept partial, and has an unfilled line that accepts the pack, in ascending order of arrival sequence and slot (R118); a pack is
passed on only if it is STORED with hold no (R11). -/
def Obligations.ReservationEnds : Prop :=
  ∀ (p : Nat) (q : Pack) (s : State), s.pack? p = some q →
    let plannable (st : TruckState) : Prop := st = .admitted ∨ st = .planned ∨ st = .loading ∨ st = .stockWait
    (∀ r t, q.reservation = some r → s.truck? r.slot = some t →
      let t' : Truck := { t with
        est := t.est - r.frozen
        lines := match r.line with
          | none => t.lines
          | some l => t.lines.modify (l - 1) (fun x => { x with filled := x.filled - 1 }) }
      let w : State := { s with
        packs := Tab.put s.packs p { q with reservation := none, state := if q.state = .reserved then .stored else q.state }
        trucks := Tab.put s.trucks r.slot t'
        plan := s.plan.map (fun f => { f with
          picks := f.picks.filter (fun e => !(e.pack == p))
          stackOrder := f.stackOrder.filter (fun st => f.picks.any (fun e => e.stack == st && !(e.pack == p))) })
        marks := { s.marks with space := s.marks.space || q.state == .reserved } }
      s.release p = w ∧
      (¬ plannable t.state → s.lose p = if s.planInFlight r.slot = true then w else w.evaluate r.slot) ∧
      (plannable t.state →
        (s.planInFlight r.slot = true → s.lose p = { w with plan := w.plan.map (fun f => { f with replanAfter := true }) }) ∧
        (s.planInFlight r.slot = false → t.state ≠ .admitted →
          s.lose p = State.evaluate (if r.slot ∈ s.planQueue then w
            else { w with planQueue := s.planQueue ++ [r.slot], marks := { w.marks with engine := true } }) r.slot))) ∧
    (∀ slot u, s.truck? slot = some u →
      (¬ plannable u.state → s.requestReplan slot = s) ∧
      (plannable u.state → s.planInFlight slot = true →
        s.requestReplan slot = { s with plan := s.plan.map (fun f => { f with replanAfter := true }) }) ∧
      (plannable u.state → s.planInFlight slot = false → slot ∈ s.planQueue → s.requestReplan slot = s) ∧
      (plannable u.state → u.state ≠ .admitted → s.planInFlight slot = false → slot ∉ s.planQueue →
        s.requestReplan slot = { s with planQueue := s.planQueue ++ [slot], marks := { s.marks with engine := true } })) ∧
    (q.state = .stored ∧ q.hold = false → s.passOn p = s.newStock p) ∧ (q.state ≠ .stored ∨ q.hold = true → s.passOn p = s) ∧
    (Tab.wf 24 s.trucks = true →
      let wants (u : Truck) : Prop := plannable u.state ∧ 0 < (u.lines.map (fun l => l.want - l.filled)).sum ∧ u.partialOk = false ∧
        ∃ l ∈ u.lines, l.filled < l.want ∧
          (l.primary.accepts q.attrs = true ∨ ∃ key, l.alternate = some key ∧ key.accepts q.attrs = true)
      ∃ order : List Nat, s.newStock p = order.foldl State.requestReplan s ∧
        (∀ slot, slot ∈ order ↔ ∃ u, s.truck? slot = some u ∧ wants u) ∧
        order.Pairwise (fun a b => ∀ u v, s.truck? a = some u → s.truck? b = some v →
          u.arrivalSeq < v.arrivalSeq ∨ (u.arrivalSeq = v.arrivalSeq ∧ a < b)))

/-- The estimate of a pack (R50 to R52): the measured weight, or volume times density over a thousand, rounded up; raised by the uplift of
the wet level where the pack stands uncovered and the wet dwell is met, rounded up again and held to 24,960 kg; absent for an unrated
pack. -/
def Obligations.EstimateIsRoundedUpAndHeld : Prop :=
  ∀ (q : Pack) (s : State),
    let density := s.setting .density (q.attrs.species * 4 + q.attrs.moisture)
    let since := (q.storedAt.getD q.talliedAt).toNat
    let covered := ∃ st, q.loc = .stack st ∧ (q.state = .stored ∨ q.state = .reserved) ∧ s.setting .bayCovered (st / 8) = 1
    let dwell := since + s.setting .wetDwell 0 * 60 ≤ s.clock.minute.toNat
    (q.measured = none → density = 0 → s.estimate? q = none ∧ s.estimate q = 0) ∧
    (∀ base, q.measured = some base ∨
        (q.measured = none ∧ 0 < density ∧ q.volume * density ≤ base * 1000 ∧ base * 1000 < q.volume * density + 1000) →
      ∃ w, s.estimate? q = some w ∧ s.estimate q = w ∧ w ≤ 24960 ∧
        (¬ covered → dwell → 0 < s.setting .wetDwell 0 →
          (w * 100 < base * (100 + s.setting .uplift s.wet) + 100) ∧
          (w < 24960 → base * (100 + s.setting .uplift s.wet) ≤ w * 100)) ∧
        (covered ∨ ¬ dwell → 0 < s.setting .wetDwell 0 → w = min 24960 base))

/-- The settling of an event carries out what the event owes, in one order (the order is the model's choice, log 14): the returns of
CANCELLING trucks are listed, top first, once no FETCH of theirs is unfinished (R92; the trucks in slot order, log 47); unresolved tasks ask
again (R72); returns and deck PUTs are given entries (R122); an unloading without returns ends and its truck is LOADED (R157); a
cancellation with nothing left frees its slot (R93); admission (R85), GATE_HOLD (R82; under crossed marks asserted, log 45, the model's
choice); the engine takes the head of the Plan Queue with a fresh plan record if the yard is READY and 96 entries are free (R98, R99); the
feeder (R30); an active stocktake with no STOCKTAKE entry and no STOCKTAKE SURVEY ends, and STOCKTAKE_DONE is set (R40). It writes no pack,
stack, deck, loader, link, clock, setting or store; a truck only by the end of its unloading or its cancellation or by its admission; a flag
is never cleared; a plan in flight stays. Freeing a slot (R93) takes it out of the Waiting Queue, the Plan Queue and the returns to create,
clears it from the tasks that name it, removes the record, and has admission judged where it held a lane and GATE_HOLD where it waited; a
plan in flight for it ends first, its picks released (R109). -/
def Obligations.SettlingKeepsTheRest : Prop :=
  ∀ s : State,
    let t := s.settle
    (t.packs = s.packs ∧ t.stackMap = s.stackMap ∧ t.deck = s.deck ∧ t.arrivals = s.arrivals ∧ t.loaders = s.loaders ∧
      t.shipLog = s.shipLog ∧ t.clock = s.clock ∧ t.wet = s.wet ∧ t.working = s.working ∧ t.stored = s.stored ∧
      t.writeList = s.writeList ∧ t.writing = s.writing ∧ t.retained = s.retained ∧ t.pending = s.pending ∧ t.supply = s.supply ∧
      t.cond = s.cond ∧ t.cause = s.cause ∧ t.strap = s.strap ∧ t.ports = s.ports ∧ t.pins.millHold = s.pins.millHold ∧
      t.marks = {}) ∧
    (∀ slot r, s.truck? slot = some r → r.state ≠ .unloading → r.state ≠ .cancelling → slot ∉ s.waiting →
      t.truck? slot = some r) ∧
    (∀ p, s.plan = some p → t.plan = some p) ∧
    s.FlagsKept t ∧
    (let s1 := if s.marks.watch = true then s.listAllCancelled else s
    let s2 := if s1.marks.space = true then s1.retry else s1
    let s3 := if s2.marks.freed = true ∨ s2.marks.serve = true then s2.serveReturns else s2
    let s4 := if s3.marks.freed = true ∨ s3.marks.puts = true then s3.servePuts else s3
    let s5 := if s4.marks.watch = true then s4.watchTrucks else s4
    let s6 := if s5.marks.lanes = true then s5.admission else s5
    let s7 := if s6.marks.gate = true then s6.judgeGate else s6
    let s8 := if s7.marks.freed = true ∨ s7.marks.engine = true then s7.judgeEngine else s7
    let s9 := if s8.marks.freed = true ∨ s8.marks.feed = true then s8.feed else s8
    let s10 := if s9.marks.take = true then s9.judgeStocktake else s9
    t = { s10 with marks := {} }) ∧
    s.listAllCancelled = (s.trucks.map (·.1)).foldl State.listCancelled s ∧
    (let ended := (s.trucks.map (·.1)).foldl State.endUnloading s
    s.watchTrucks = (ended.trucks.map (·.1)).foldl State.completeCancel ended) ∧
    (∀ slot r, s.truck? slot = some r →
      let working (kind : TaskKind) : Prop := ∃ k ∈ s.tasks, k.kind = kind ∧ k.truck = some slot
      let listed : Prop := ∃ e ∈ s.returns, e.slot = slot
      (r.state = .cancelling → ¬ working .fetch →
        let more := r.load.reverse.filter (fun j =>
          !(s.returns.any (fun e => e.slot == slot && e.pack == j)) && !(s.tasks.any (fun k => k.kind == .ret && k.pack == some j)))
        s.listCancelled slot = { s with
          returns := s.returns ++ more.map (fun j => ⟨slot, j⟩), marks := { s.marks with serve := s.marks.serve || !more.isEmpty } }) ∧
      (r.state ≠ .cancelling ∨ working .fetch → s.listCancelled slot = s) ∧
      (r.state = .unloading → ¬ listed → ¬ working .ret →
        s.endUnloading slot = { s with
          trucks := Tab.put s.trucks slot { r with state := .loaded }
          planQueue := s.planQueue.filter (fun j => !(j == slot)), flags := s.flags ||| 0x0002#16 }) ∧
      (r.state ≠ .unloading ∨ listed ∨ working .ret → s.endUnloading slot = s) ∧
      (let finished := r.state = .cancelling ∧ s.planInFlight slot = false ∧ ¬ working .fetch ∧ ¬ working .ret ∧ ¬ listed ∧ r.load = []
      (finished → s.completeCancel slot = { s with
        waiting := s.waiting.filter (fun j => !(j == slot))
        planQueue := s.planQueue.filter (fun j => !(j == slot))
        returns := s.returns.filter (fun e => !(e.slot == slot))
        tasks := s.tasks.map (fun k => if k.truck = some slot then { k with truck := none } else k)
        trucks := Tab.erase s.trucks slot
        marks := { s.marks with
          gate := s.marks.gate || s.waiting.contains slot, lanes := s.marks.lanes || r.lane.isSome } }) ∧
      (¬ finished → s.completeCancel slot = s)) ∧
      (let off : State := { s with
        waiting := s.waiting.filter (fun j => !(j == slot))
        planQueue := s.planQueue.filter (fun j => !(j == slot))
        returns := s.returns.filter (fun e => !(e.slot == slot))
        marks := { s.marks with gate := s.marks.gate || s.waiting.contains slot } }
      let unnamed : List Sys2Proof.Machine.Task := s.tasks.map (fun k => if k.truck = some slot then { k with truck := none } else k)
      (s.planInFlight slot = false → s.freeSlot slot = { off with
        tasks := unnamed, trucks := Tab.erase s.trucks slot, marks := { off.marks with lanes := s.marks.lanes || r.lane.isSome } }) ∧
      (∀ p, s.plan = some p → p.slot = slot →
        let v := (p.picks.map (·.pack)).foldl State.release off
        s.freeSlot slot = { v with
          plan := none, tasks := unnamed, trucks := Tab.erase v.trucks slot
          marks := { v.marks with engine := true, freed := true, watch := true, lanes := s.marks.lanes || r.lane.isSome } } ∧
        ∀ j q, s.pack? j = some q → q.reservation ≠ none →
          ((∃ e ∈ p.picks, e.pack = j) →
            v.pack? j = some { q with reservation := none, state := if q.state = .reserved then .stored else q.state }) ∧
          ((∀ e ∈ p.picks, e.pack ≠ j) → v.pack? j = some q)))) ∧
    (∀ slot rest, s.plan = none → s.planQueue = slot :: rest → s.cond = .ready → s.tasks.length + 96 ≤ 512 →
      s.judgeEngine = { s with plan := some ⟨slot, some 1, [], [], false, false⟩, planQueue := rest }) ∧
    (s.plan ≠ none ∨ s.planQueue = [] ∨ s.cond ≠ .ready ∨ 512 < s.tasks.length + 96 → s.judgeEngine = s) ∧
    (let left := (∃ e ∈ s.backlog, e.2 = .stocktake) ∨ ∃ k ∈ s.tasks, k.kind = .survey ∧ k.reason = some .stocktake
    (s.stocktake.active = true → ¬ left →
      s.judgeStocktake = { s with stocktake := { s.stocktake with active := false }, flags := s.flags ||| 0x2000#16 }) ∧
    (s.stocktake.active = false ∨ left → s.judgeStocktake = s))

-- The Plan Engine (chapter 6).

/-- A pack matches a key where it satisfies every field of the key (R45, Table 3-1). The search of a line (R103 to R105): the best candidate
of the primary key, else of the alternate key: the lowest effective depth, then the earliest tallied_at, then the lowest index. A candidate
is STORED, not held, identified, rated, of an acceptable kind, in a stack that is not suspect and that no task touches or is bound for, not
too deep, and fits the budget left. That a FETCH converted at PLACE touches the stack it was lifted from, in whose order it stands, and so
keeps its packs from being candidates (R103), is the model's reading (log 16, DEDUCED). -/
def Obligations.SearchFindsTheBestCandidate : Prop :=
  (∀ (key : Key) (a : Attrs), key.accepts a = true ↔
    (∀ v, key.species = some v → a.species = v) ∧ a.grade ≤ key.gradeLimit ∧ (∀ v, key.thickness = some v → a.thickness = v) ∧
      (∀ v, key.width = some v → a.width = v) ∧ key.lengthMin ≤ a.length ∧ a.length ≤ key.lengthMax ∧
      (∀ v, key.treatment = some v → a.treatment = v) ∧ a.moisture ≤ key.moistureLimit) ∧
  ∀ (picks : List Pick) (t : Truck) (l : Line) (s : State), Tab.wf 4096 s.packs = true →
    let depth (j st : Nat) : Nat :=
      ((((s.stack st).list.dropWhile (fun a => !(a == j))).drop 1).filter (fun a => !(picked picks a))).length
    let Candidate (key : Key) (j : Nat) (q : Pack) (st : Nat) : Prop :=
      s.pack? j = some q ∧ q.loc = .stack st ∧ q.state = .stored ∧ q.hold = false ∧ q.identified = true ∧ s.unrated q = false ∧
        key.accepts q.attrs = true ∧ (s.stack st).suspect = false ∧ s.pendingArrivals st = 0 ∧
        (∀ u ∈ s.touches, u.place ≠ .stack st) ∧ depth j st ≤ s.setting .maxDigDepth 0 ∧ s.estimate q ≤ t.budget - t.est
    let Best (key : Key) (j : Nat) (q : Pack) : Prop := ∃ st, Candidate key j q st ∧ ∀ j' q' st', Candidate key j' q' st' →
      depth j st < depth j' st' ∨ (depth j st = depth j' st' ∧
        (q.talliedAt < q'.talliedAt ∨ (q.talliedAt = q'.talliedAt ∧ j ≤ j')))
    (∀ j q kind, s.searchLine picks t l = some ((j, q), kind) →
      (kind = .primary ∧ Best l.primary j q) ∨
      (kind = .alternate ∧ (∀ j' q' st', ¬ Candidate l.primary j' q' st') ∧ ∃ key, l.alternate = some key ∧ Best key j q)) ∧
    (s.searchLine picks t l = none →
      (∀ j q st, ¬ Candidate l.primary j q st) ∧ ∀ key, l.alternate = some key → ∀ j q st, ¬ Candidate key j q st)

/-- A pick step (R102) does the first that applies: it aborts a cancelled plan, ends the lines of a truck found LOADED, UNLOADING or
RELEASED, completes a plan whose lines are done, passes over a full line or a full truck, reserves the pack the search finds (R106), or
advances. A pick's stack takes its place in the plan's order of stacks at its first pick (R112, log 43), and the completion creates the
tasks of the stacks in that order. A truck found LOADED, UNLOADING or RELEASED ends the lines only while they are not done, and TRUCK_SHORT
is judged on the state found (log 36, DEDUCED). The completion then evaluates a truck in ADMITTED, PLANNED, LOADING or STOCK_WAIT, an entry
into LOADED setting TRUCK_LOADED and taking the slot out of the Plan Queue (R87, R88), sets TRUCK_SHORT where it finds the truck short
without accept partial or with neither load nor outstanding packs, ends the plan, and grants the replan request that replan after asks for
by the truck's standing (R115, R116). Without a plan in flight it changes nothing (log 27, the model's choice). -/
def Obligations.PickStepTakesOneStep : Prop :=
  ∀ s : State,
    (s.plan = none → s.Does .pickStep s) ∧
    (∀ p t, s.plan = some p → s.truck? p.slot = some t →
      let gone := t.state = .loaded ∨ t.state = .unloading ∨ t.state = .released
      let onLine (line : Option Nat) : State := { s with plan := some { p with line := line } }
      (p.abort = true →
        let w := State.abortPlan { s with marks := {} }
        s.Does .pickStep w.settle ∧ w.plan = none ∧ w.tasks = s.tasks ∧ w.flags = s.flags ∧
          (w.truck? p.slot).map (·.state) = some t.state ∧
          ∀ e ∈ p.picks, ∀ q, s.pack? e.pack = some q → q.state = .reserved → q.reservation ≠ none →
            w.pack? e.pack = some { q with state := .stored, reservation := none }) ∧
      (p.abort = false → gone → p.line ≠ none → s.Does .pickStep (onLine none)) ∧
      (∀ m l, p.abort = false → ¬ gone → p.line = some m → t.lines[m - 1]? = some l →
        let next : Option Nat := if m < t.lines.length then some (m + 1) else none
        (l.filled = l.want ∨ s.packCount p.slot = t.maxPacks → s.Does .pickStep (onLine next)) ∧
        (l.filled < l.want → s.packCount p.slot < t.maxPacks →
          (s.searchLine p.picks t l = none → s.Does .pickStep (onLine next)) ∧
          (∀ j q st kind, s.searchLine p.picks t l = some ((j, q), kind) → q.loc = .stack st →
            s.Does .pickStep { s with
              packs := Tab.put s.packs j { q with
                state := .reserved, reservation := some ⟨p.slot, some m, some kind, s.estimate q⟩ }
              trucks := Tab.put s.trucks p.slot { t with
                est := t.est + s.estimate q, lines := t.lines.modify (m - 1) (fun x => { x with filled := x.filled + 1 }) }
              plan := some { p with
                picks := p.picks ++ [⟨j, st, m, kind⟩]
                stackOrder := if st ∈ p.stackOrder then p.stackOrder else p.stackOrder ++ [st] } }))) ∧
      (p.abort = false → p.line = none →
        let w := State.completePlan { s with marks := {} } p t
        s.Does .pickStep w.settle ∧ w.plan = none ∧
          (∀ lane, t.lane = some lane →
            w.tasks = (p.stackOrder.foldl (State.completeStack p.slot lane) { s with marks := {} }).tasks ∧
            w.packs = (p.stackOrder.foldl (State.completeStack p.slot lane) { s with marks := {} }).packs) ∧
          (∀ lane, t.lane = some lane →
            let v := p.stackOrder.foldl (State.completeStack p.slot lane) { s with marks := {} }
            let judged : Bool := t.state == .admitted || t.state == .planned || t.state == .loading || t.state == .stockWait
            let found : Bool := t.state == .loaded || t.state == .unloading || t.state == .released
            ∃ t', v.truck? p.slot = some t' ∧ t'.state = t.state ∧ t'.load = t.load ∧ t'.partialOk = t.partialOk ∧ t'.lane = t.lane ∧
              (let n : TruckState :=
                if 0 < v.outstanding p.slot then (if t.load = [] then .planned else .loading)
                else if t.load = [] then .stockWait
                else if t'.shortfall = 0 ∨ t.partialOk = true then .loaded
                else .stockWait
              let short : Bool := !found &&
                (decide (0 < t'.shortfall ∧ t.partialOk = false) || decide (v.outstanding p.slot = 0 ∧ t.load = []))
              let queue := if judged = true ∧ n = .loaded then s.planQueue.filter (fun j => !(j == p.slot)) else s.planQueue
              w.truck? p.slot = some (if judged = true then { t' with state := n } else t') ∧
              (∀ j, j ≠ p.slot → w.truck? j = v.truck? j) ∧
              w.flags = v.flags ||| (if judged = true ∧ n = .loaded then 0x0002#16 else 0#16) |||
                (if short = true then 0x0004#16 else 0#16) ∧
              w.planQueue =
                if p.replanAfter = true ∧ judged = true ∧ n ≠ .loaded ∧ p.slot ∉ queue then queue ++ [p.slot] else queue)) ∧
          (p.picks = [] → p.stackOrder = [] → w.tasks = s.tasks ∧ w.packs = s.packs ∧
            (gone ∨ t.state = .waiting ∨ t.state = .cancelling → w.truck? p.slot = some t) ∧
            (t.state = .admitted ∨ t.state = .planned ∨ t.state = .loading ∨ t.state = .stockWait →
              (w.truck? p.slot).map (·.state) =
                some (evaluated (s.outstanding p.slot) t.load t.shortfall t.partialOk) ∧
              w.flag .truckShort =
                (s.flag .truckShort || decide ((0 < t.shortfall ∧ t.partialOk = false) ∨ (s.outstanding p.slot = 0 ∧ t.load = [])))))))

/-- The completion's walk of one stack, from its top down (R112, R114): each pick gets a FETCH to the truck's lane; at each other pack the
Selector is asked as for a DIG from the stack, on the yard as the walk has left it, and the pack gets a DIG to the stack it answers; where
it answers none the walk stops there, the picks below are released and NO_SPACE is set. So the tasks are created QUEUED in the order of the
walk, each DIG to another stack of its zone. Before its walk each stack is judged for depth (R113): a pick with more packs above it that
are not picked than the max dig depth is released, and the others stay picked; the walk then goes from the top down to the lowest pick
that remains. -/
def Obligations.CompletionWalksFromTheTop : Prop :=
  ∀ (picks : List Pick) (slot lane st : Nat) (packs : List Nat) (s : State),
    let w := s.walk picks slot lane st packs
    s.walk picks slot lane st [] = s ∧
    (∀ j below,
      (picked picks j = true →
        s.walk picks slot lane st (j :: below) =
          State.walk (s.addTask .fetch (some j) (.stack st) (.lane lane) (some slot) (s.setting .bayZone (st / 8)) none)
            picks slot lane st below) ∧
      (∀ d, picked picks j = false → s.select ⟨.dig, j, .stack st, false⟩ = some d →
        s.walk picks slot lane st (j :: below) =
          State.walk (s.addTask .dig (some j) (.stack st) (.stack d) (some slot) (s.setting .bayZone (st / 8)) none)
            picks slot lane st below) ∧
      (picked picks j = false → s.select ⟨.dig, j, .stack st, false⟩ = none →
        let v := (below.filter (picked picks)).foldl State.release s
        s.walk picks slot lane st (j :: below) = { v with flags := s.flags ||| 0x0800#16 })) ∧
    (∃ (m : Nat) (created : List Sys2Proof.Machine.Task), m ≤ packs.length ∧ w.tasks = s.tasks ++ created ∧
      created.map (fun k => (k.pack, k.kind)) =
        (packs.take m).map (fun j => (some j, if picked picks j = true then TaskKind.fetch else .dig)) ∧
      (∀ k ∈ created, k.source = .stack st ∧ k.truck = some slot ∧ k.state = .queued ∧ k.zone = s.setting .bayZone (st / 8) ∧
        (k.kind = .fetch → k.dest = .lane lane) ∧
        (k.kind = .dig → ∃ d, k.dest = .stack d ∧ d ≠ st ∧ s.setting .bayZone (d / 8) = s.setting .bayZone (st / 8))) ∧
      (m = packs.length → w.packs = s.packs ∧ w.flags = s.flags) ∧
      (m < packs.length →
        (∀ j, packs[m]? = some j → picked picks j = false) ∧ w.flag .noSpace = true ∧
        ∀ j ∈ packs.drop (m + 1), picked picks j = true → ∀ q, s.pack? j = some q → q.state = .reserved → q.reservation ≠ none →
          w.pack? j = some { q with state := .stored, reservation := none })) ∧
    (∀ p, s.plan = some p →
      let v := s.judgeDepth st
      let deep (j : Nat) : Prop := s.setting .maxDigDepth 0 <
        ((((s.stack st).list.dropWhile (fun a => !(a == j))).drop 1).filter (fun a => !(picked p.picks a))).length
      (∃ p', v.plan = some p' ∧ (∀ e ∈ p'.picks, e ∈ p.picks) ∧
        (∀ e ∈ p.picks, e.pack ∉ (s.stack st).list ∨ ¬ deep e.pack → e ∈ p'.picks) ∧
        ∀ e ∈ p.picks, e.pack ∈ (s.stack st).list → deep e.pack → (∃ q, s.pack? e.pack = some q ∧ q.reservation ≠ none) →
          e ∉ p'.picks) ∧
      (∀ j q, s.pack? j = some q →
        (j ∈ (s.stack st).list → picked p.picks j = true → deep j → q.state = .reserved → q.reservation ≠ none →
          v.pack? j = some { q with state := .stored, reservation := none }) ∧
        (j ∉ (s.stack st).list ∨ picked p.picks j = false ∨ ¬ deep j → v.pack? j = some q)) ∧
      v.tasks = s.tasks ∧ v.stackMap = s.stackMap ∧
      State.completeStack slot lane s st = v.walk v.picks slot lane st
        ((s.stack st).list.dropWhile (fun j => !(picked v.picks j))).reverse)

-- The stores, the clock and the starts (chapter 11).

/-- YARD_MINUTE advances the minute count, from its top to 0, and sets the second phase to 0 (R180). WRITE_OF_HEAD_BEGINS puts the head of the
write list in writing; CONFIG_WRITE_END makes the stored value the entry's and takes the entry off, and the next entry waits until its own
write begins, as in the worked sequence of section 11.2 (R187; log 13, DEDUCED).
RETAINED_WRITE_END completes the image in writing: the content, a generation one higher than the other's, a matching check; BACKUP_LAPSE is
recorded by the monitor (R189). Each changes nothing else. The model's own choices: YARD_MINUTE sets the phase to 0 at any phase (log 4), and
a row without its object changes nothing (log 27). -/
def Obligations.StoresAndClockEvents : Prop :=
  ∀ s : State,
    let Stores (i : Instr) (r : RetainedStore) : Prop :=
      ∃ t, exec i s = .next t ∧ State.Unasked { s with retained := r } t ∧ t.yard = s.yard
    (s.supply = true → s.Does .yardMinute { s with clock := ⟨s.clock.minute + 1, s.clock.stale, 0⟩ }) ∧
    (s.supply = false → s.Does .yardMinute s) ∧
    (s.writeList ≠ [] → s.Does .writeOfHeadBegins { s with writing := true }) ∧
    (s.writeList = [] → s.Does .writeOfHeadBegins s) ∧
    (∀ e rest k j, s.writing = true → s.writeList = e :: rest → e.item = k.key j → j < k.count →
      let u : State := { s with stored := writeSetting s.stored k j e.value, writeList := rest, writing := false }
      s.Does .configWriteEnd u ∧
        ∀ k' j', j' < k'.count → u.storedSetting k' j' = if k' = k ∧ j' = j then e.value else s.storedSetting k' j') ∧
    (s.writing = false ∨ s.writeList = [] → s.Does .configWriteEnd s) ∧
    (∀ c, s.retained.write = some c →
      (s.retained.a.gen ≤ s.retained.b.gen →
        Stores .retainedWriteEnd { s.retained with a := ⟨s.retained.b.gen + 1, c, true⟩, write := none }) ∧
      (s.retained.b.gen < s.retained.a.gen →
        Stores .retainedWriteEnd { s.retained with b := ⟨s.retained.a.gen + 1, c, true⟩, write := none })) ∧
    (s.retained.write = none → Stores .retainedWriteEnd s.retained) ∧
    Stores .backupLapse { s.retained with lapse := true }

/-- The three resets begin a start (R183 to R185, R190): POWER_ON, RESET_PIN while the supply is present (still of kind POWER_ON where it
abandons a POWER_ON start), and the end of the answer to an accepted RESTART. Working state is gone, the settings are loaded, or the
defaults under the strap, the Retained Store is judged and the clock set by R182. With a valid record the yard is STARTING with that record;
else the record is emptied, both images written, RETENTION_LOST set for an invalid store, and the yard becomes READY. A fall of the
main supply ends all work and begins none. The model's own choices: the working records, outputs and ports are cleared at the fall (log 9),
POWER_ON begins a start in every state (log 8), the strap is an operand of the row (log 7), and a start that empties the record is READY in
the same step (log 1). -/
def Obligations.ResetsBeginAStart : Prop :=
  ∀ (strap : Bool) (s : State),
    let found : Option RetainedRecord :=
      if s.retained.lapse = true then none
      else if s.retained.a.ok = true ∧ (s.retained.b.ok = false ∨ s.retained.b.gen < s.retained.a.gen) then some s.retained.a.content
      else if s.retained.b.ok = true then some s.retained.b.content
      else none
    let Starts (i : Instr) (cause : ResetCause) : Prop :=
      let kept := if cause = .officeRestartClear then none else found
      let clock : Clock :=
        if cause = .powerOn then ⟨(found.map (·.minute)).getD 0, true, 0⟩ else s.clock
      ∃ t, exec i s = .next t ∧ t.LinesLaw ∧ t.Quiet ∧
        (t.supply = true ∧ t.cause = cause ∧ t.strap = strap ∧ t.pending = s.pending ∧ t.stored = s.stored ∧ t.clock = clock ∧
          t.working = (if strap = true then [] else s.stored) ∧ t.writeList = [] ∧ t.writing = false) ∧
        (t.trucks = [] ∧ t.waiting = [] ∧ t.arrivals = 0 ∧ t.returns = [] ∧ t.planQueue = [] ∧ t.plan = none ∧
          t.stocktake = Stocktake.clear) ∧
        (∀ q, t.port q = ⟨.hunting, [], false, none, t.setting .portRate (portNum q)⟩) ∧
        (∀ r, kept = some r →
          t.cond = .starting ∧ t.flags = 0#16 ∧ t.pins.gateHold = false ∧ t.pins.millHold = false ∧ t.tasks = [] ∧ t.touches = [] ∧
            t.lastId = 0 ∧ t.packs = r.packs ∧ t.stackMap = r.stackMap ∧ t.deck = r.deck ∧
            t.backlog = r.suspects.map (fun id => (id, Reason.suspect)) ∧ t.shipLog = r.shipLog ∧ t.wet = r.wet ∧
            (∀ n, n < r.modes.length → t.loader n = ⟨r.modes.getD n .inService, false, none, none, none⟩) ∧
            State.StoreFollows { s with retained := { s.retained with write := none, lapse := false } } t) ∧
        (kept = none →
          t.cond = .ready ∧ t.flags = (if found = none then 0x4000#16 else 0#16) ∧ t.tasks = [] ∧ t.packs = [] ∧ t.stackMap = [] ∧ t.deck = [] ∧
            t.backlog = [] ∧ t.shipLog = [] ∧ t.wet = 0 ∧ (∀ n, t.loader n = ⟨.inService, false, none, none, none⟩) ∧
            t.retained.a.content = t.retainedContent ∧ t.retained.b.content = t.retainedContent ∧ t.retained.a.ok = true ∧
            t.retained.b.ok = true ∧ t.retained.write = none ∧ t.retained.lapse = false)
    Starts (.powerOn strap) .powerOn ∧
    (s.supply = true →
      Starts (.resetPin strap) (if s.cond = .starting ∧ s.cause = .powerOn then .powerOn else .resetPin)) ∧
    (s.supply = false → exec (.resetPin strap) s = .next s) ∧
    (∀ p code cause, (s.port p).cond = .answering → (s.port p).tx = some ⟨code, .restart cause⟩ → Starts (.answerSent p strap) cause) ∧
    (∃ t, exec .supplyFall s = .next t ∧ t.LinesLaw ∧ t.Quiet ∧ t.supply = false ∧ t.pending = s.pending ∧ t.stored = s.stored ∧
      t.retained = { s.retained with write := none } ∧ t.clock = s.clock ∧ t.flags = 0#16 ∧
      t.pins = ⟨List.replicate 6 false, false, false, false⟩ ∧ t.packs = [] ∧ t.trucks = [] ∧ t.tasks = [] ∧ t.plan = none ∧
      t.writeList = [] ∧ ∀ q, t.port q = ⟨.hunting, [], false, none, 2⟩)

/-- The start sweep (R192, R193): INBOUND, STORED, LOST and ORPHANED packs stay as retained, a RESERVED pack is STORED, one ON_LOADER is
LOST, one ON_TRUCK is ORPHANED with its visit number and load sequence; ORPHANS_PRESENT is set if it made one; MILL_HOLD is judged on the
retained deck; the yard becomes READY, and the deck packs and the kept SUSPECT entries are given their tasks. That the end of the sweep and
READY are one step, with no request taken between them, is the model's choice (log 51). Outside a start it changes nothing (log 27, the
model's choice). Under crossed marks, where R65 gives both outcomes, the line is asserted: the model's choice (log 45). -/
def Obligations.StartSweepMakesTheYardReady : Prop :=
  ∀ s : State,
    (s.supply = true → s.cond = .starting →
      let swept (q : Pack) : Pack :=
        if q.state = .reserved then { q with state := .stored, reservation := none }
        else if q.state = .onLoader then { q with state := .lost, loc := .none, reservation := none }
        else if q.state = .onTruck then { q with state := .orphaned, loc := .none, reservation := none }
        else q
      let u := State.settle { s with
        cond := .ready
        packs := s.packs.map (fun (e : Nat × Pack) => (e.1, swept e.2))
        flags := if ∃ e ∈ s.packs, e.2.state = .onTruck then s.flags ||| 0x8000#16 else s.flags
        pins := { s.pins with millHold :=
          if s.millHigh ≤ s.deck.length then true else if s.deck.length ≤ s.millLow then false else s.pins.millHold }
        marks := { puts := true, feed := true, lanes := true, gate := true, engine := true } }
      s.Does .startSweep u) ∧
    (s.supply = false ∨ s.cond = .ready → exec .startSweep s = .next s)

-- What every step keeps.

/-- Every step keeps the law of the lines: each of ATTN0 to ATTN5 is asserted exactly while a set flag is routed to it, READY exactly while
the yard is READY (R178, R179); and nothing is owed after it (log 25). -/
def Obligations.EveryStepKeepsTheLines : Prop :=
  ∀ s t : State, s.LinesLaw → s.Quiet → step s = .next t → t.LinesLaw ∧ t.Quiet

/-- An event flag that is yes stays yes through every step but an EVENT_ACK that names it, a reset, and a fall of the supply (R174). -/
def Obligations.EveryStepKeepsTheFlags : Prop :=
  ∀ s t : State, step s = .next t →
    (∀ c rest, s.pending = c :: rest →
      (∀ strap, c ≠ .powerOn strap) ∧ (∀ strap, c ≠ .resetPin strap) ∧ c ≠ .supplyFall ∧
      (∀ p strap, c = .answerSent p strap → ∀ code cause, (s.port p).tx ≠ some ⟨code, .restart cause⟩)) →
    ∀ e : Event, (∀ p len set rest, s.pending = .eventAck p len set :: rest → set.getLsbD e.bit = false) →
      s.flag e = true → t.flag e = true

/-- Every step keeps the Pack Table and the Truck Register in their canonical form and each tag in one entry at most, in the working state and
in what the Retained Store holds (R1, R2, R75). -/
def Obligations.EveryStepKeepsTheTables : Prop :=
  ∀ s t : State, s.TablesLaw → step s = .next t → t.TablesLaw

/-- Every step keeps the law of the Plan Queue (R97), each stack of the plan's picks once in its order of stacks (R110, R112; log 43), each
lane held by at most one truck (R84), the Shipment Log at 32 records at most (R164), and the Retained Store with one whole image of the
higher generation (R189). -/
def Obligations.EveryStepKeepsTheQueuesAndTheStore : Prop :=
  ∀ s t : State, step s = .next t →
    (s.PlanQueueLaw → t.PlanQueueLaw) ∧ (s.PlanLaw → t.PlanLaw) ∧ (s.TablesLaw → s.LaneLaw → t.LaneLaw) ∧ (s.LogLaw → t.LogLaw) ∧
    (s.StoreLaw → t.StoreLaw ∧
      (t.retained.lapse = false → ∃ r, t.retained.chosen = some r ∧ r.ok = true ∧ r.gen = max t.retained.a.gen t.retained.b.gen))

/-- Every step keeps the Task Pool within its 512 entries, and within 416 while a plan is in flight, so that 96 are free for its completion
(R100, R120); a plan in flight is taken to fit the yard as R113 has it: at most 24 picks, of packs with a reservation, in stacks whose lists
share no pack, and a max dig depth of at most 3. Of these, a step keeps each pick RESERVED for the plan's truck and no pack picked twice
(R106, R110), and with every N at most 24 it keeps at most 24 picks (R102), where no pick is the object of a task or on a load (R103, R123);
and it keeps every setting, stored value and value that waits to be stored inside its range, the max dig depth among them (R185 to R187).
That the lists of the picks' stacks share no pack stays a premise. Every step that leaves the pool within its 512 entries, which the first
part gives, keeps the law of the Dispatcher: no id twice, and each loader's current task its one task in ISSUED or LIFTED (R120, R123). -/
def Obligations.EveryStepKeepsTheDispatch : Prop :=
  ∀ s t : State, step s = .next t →
    (s.PoolLaw → s.PlanLaw → s.PlanFits → t.PoolLaw) ∧
    (s.DispatchLaw → t.tasks.length ≤ 512 → t.DispatchLaw) ∧
    (s.TablesLaw → s.PicksLaw → s.PicksApart →
      t.PicksLaw ∧
        ((∀ e ∈ s.trucks, e.2.maxPacks ≤ 24) → (∀ p, s.plan = some p → p.picks.length ≤ 24) →
          ∀ p, t.plan = some p → p.picks.length ≤ 24)) ∧
    (s.SettingsLaw → t.SettingsLaw) ∧
    (s.PicksLaw → s.SettingsLaw →
      (∀ p, s.plan = some p → p.picks.length ≤ 24 ∧ (p.stackOrder.flatMap (fun st => (s.stack st).list)).Nodup) → s.PlanFits)

/-- The machine right after the first POWER_ON of a new part satisfies every law above, and it is the state that a POWER_ON of a part with
factory settings and an invalid Retained Store gives (log 1, the model's choice of the start that stands for reset). -/
def Obligations.ResetMeetsTheLaws : Prop :=
  State.reset.LinesLaw ∧ State.reset.Quiet ∧ State.reset.TablesLaw ∧ State.reset.PlanQueueLaw ∧ State.reset.LogLaw ∧
    State.reset.LaneLaw ∧ State.reset.StoreLaw ∧ State.reset.DispatchLaw ∧ State.reset.PoolLaw ∧ State.reset.PlanLaw ∧
    State.reset.PlanFits ∧ State.reset.PicksLaw ∧ State.reset.PicksApart ∧ State.reset.SettingsLaw ∧
    ∀ s : State, s.pending = [] → s.stored = [] → s.retained.lapse = true → exec (.powerOn false) s = .next State.reset
end

