-- ==== Sys2Proof/Laws/State.lean ====
section
/-! SUPPORT. One lemma for each field of the state under each named update, true by unfolding the record. -/
namespace Sys2Proof.Machine

variable (s : State)

@[simp] theorem State.setPack_pending (i : Nat) (p : Pack) : (s.setPack i p).pending = s.pending := rfl
@[simp] theorem State.setPack_supply (i : Nat) (p : Pack) : (s.setPack i p).supply = s.supply := rfl
@[simp] theorem State.setPack_cond (i : Nat) (p : Pack) : (s.setPack i p).cond = s.cond := rfl
@[simp] theorem State.setPack_cause (i : Nat) (p : Pack) : (s.setPack i p).cause = s.cause := rfl
@[simp] theorem State.setPack_strap (i : Nat) (p : Pack) : (s.setPack i p).strap = s.strap := rfl
@[simp] theorem State.setPack_ports (i : Nat) (p : Pack) : (s.setPack i p).ports = s.ports := rfl
@[simp] theorem State.setPack_packs (i : Nat) (p : Pack) : (s.setPack i p).packs = Tab.put s.packs i p := rfl
@[simp] theorem State.setPack_stacks (i : Nat) (p : Pack) : (s.setPack i p).stackMap = s.stackMap := rfl
@[simp] theorem State.setPack_touches (i : Nat) (p : Pack) : (s.setPack i p).touches = s.touches := rfl
@[simp] theorem State.setPack_backlog (i : Nat) (p : Pack) : (s.setPack i p).backlog = s.backlog := rfl
@[simp] theorem State.setPack_stocktake (i : Nat) (p : Pack) : (s.setPack i p).stocktake = s.stocktake := rfl
@[simp] theorem State.setPack_deck (i : Nat) (p : Pack) : (s.setPack i p).deck = s.deck := rfl
@[simp] theorem State.setPack_trucks (i : Nat) (p : Pack) : (s.setPack i p).trucks = s.trucks := rfl
@[simp] theorem State.setPack_arrivals (i : Nat) (p : Pack) : (s.setPack i p).arrivals = s.arrivals := rfl
@[simp] theorem State.setPack_waiting (i : Nat) (p : Pack) : (s.setPack i p).waiting = s.waiting := rfl
@[simp] theorem State.setPack_returns (i : Nat) (p : Pack) : (s.setPack i p).returns = s.returns := rfl
@[simp] theorem State.setPack_planQueue (i : Nat) (p : Pack) : (s.setPack i p).planQueue = s.planQueue := rfl
@[simp] theorem State.setPack_plan (i : Nat) (p : Pack) : (s.setPack i p).plan = s.plan := rfl
@[simp] theorem State.setPack_tasks (i : Nat) (p : Pack) : (s.setPack i p).tasks = s.tasks := rfl
@[simp] theorem State.setPack_lastId (i : Nat) (p : Pack) : (s.setPack i p).lastId = s.lastId := rfl
@[simp] theorem State.setPack_loaders (i : Nat) (p : Pack) : (s.setPack i p).loaders = s.loaders := rfl
@[simp] theorem State.setPack_shipLog (i : Nat) (p : Pack) : (s.setPack i p).shipLog = s.shipLog := rfl
@[simp] theorem State.setPack_flags (i : Nat) (p : Pack) : (s.setPack i p).flags = s.flags := rfl
@[simp] theorem State.setPack_pins (i : Nat) (p : Pack) : (s.setPack i p).pins = s.pins := rfl
@[simp] theorem State.setPack_clock (i : Nat) (p : Pack) : (s.setPack i p).clock = s.clock := rfl
@[simp] theorem State.setPack_wet (i : Nat) (p : Pack) : (s.setPack i p).wet = s.wet := rfl
@[simp] theorem State.setPack_working (i : Nat) (p : Pack) : (s.setPack i p).working = s.working := rfl
@[simp] theorem State.setPack_stored (i : Nat) (p : Pack) : (s.setPack i p).stored = s.stored := rfl
@[simp] theorem State.setPack_writeList (i : Nat) (p : Pack) : (s.setPack i p).writeList = s.writeList := rfl
@[simp] theorem State.setPack_writing (i : Nat) (p : Pack) : (s.setPack i p).writing = s.writing := rfl
@[simp] theorem State.setPack_retained (i : Nat) (p : Pack) : (s.setPack i p).retained = s.retained := rfl
@[simp] theorem State.setPack_marks (i : Nat) (p : Pack) : (s.setPack i p).marks = s.marks := rfl

@[simp] theorem State.erasePack_pending (i : Nat) : (s.erasePack i).pending = s.pending := rfl
@[simp] theorem State.erasePack_supply (i : Nat) : (s.erasePack i).supply = s.supply := rfl
@[simp] theorem State.erasePack_cond (i : Nat) : (s.erasePack i).cond = s.cond := rfl
@[simp] theorem State.erasePack_cause (i : Nat) : (s.erasePack i).cause = s.cause := rfl
@[simp] theorem State.erasePack_strap (i : Nat) : (s.erasePack i).strap = s.strap := rfl
@[simp] theorem State.erasePack_ports (i : Nat) : (s.erasePack i).ports = s.ports := rfl
@[simp] theorem State.erasePack_packs (i : Nat) : (s.erasePack i).packs = Tab.erase s.packs i := rfl
@[simp] theorem State.erasePack_stacks (i : Nat) : (s.erasePack i).stackMap = s.stackMap := rfl
@[simp] theorem State.erasePack_touches (i : Nat) : (s.erasePack i).touches = s.touches := rfl
@[simp] theorem State.erasePack_backlog (i : Nat) : (s.erasePack i).backlog = s.backlog := rfl
@[simp] theorem State.erasePack_stocktake (i : Nat) : (s.erasePack i).stocktake = s.stocktake := rfl
@[simp] theorem State.erasePack_deck (i : Nat) : (s.erasePack i).deck = s.deck := rfl
@[simp] theorem State.erasePack_trucks (i : Nat) : (s.erasePack i).trucks = s.trucks := rfl
@[simp] theorem State.erasePack_arrivals (i : Nat) : (s.erasePack i).arrivals = s.arrivals := rfl
@[simp] theorem State.erasePack_waiting (i : Nat) : (s.erasePack i).waiting = s.waiting := rfl
@[simp] theorem State.erasePack_returns (i : Nat) : (s.erasePack i).returns = s.returns := rfl
@[simp] theorem State.erasePack_planQueue (i : Nat) : (s.erasePack i).planQueue = s.planQueue := rfl
@[simp] theorem State.erasePack_plan (i : Nat) : (s.erasePack i).plan = s.plan := rfl
@[simp] theorem State.erasePack_tasks (i : Nat) : (s.erasePack i).tasks = s.tasks := rfl
@[simp] theorem State.erasePack_lastId (i : Nat) : (s.erasePack i).lastId = s.lastId := rfl
@[simp] theorem State.erasePack_loaders (i : Nat) : (s.erasePack i).loaders = s.loaders := rfl
@[simp] theorem State.erasePack_shipLog (i : Nat) : (s.erasePack i).shipLog = s.shipLog := rfl
@[simp] theorem State.erasePack_flags (i : Nat) : (s.erasePack i).flags = s.flags := rfl
@[simp] theorem State.erasePack_pins (i : Nat) : (s.erasePack i).pins = s.pins := rfl
@[simp] theorem State.erasePack_clock (i : Nat) : (s.erasePack i).clock = s.clock := rfl
@[simp] theorem State.erasePack_wet (i : Nat) : (s.erasePack i).wet = s.wet := rfl
@[simp] theorem State.erasePack_working (i : Nat) : (s.erasePack i).working = s.working := rfl
@[simp] theorem State.erasePack_stored (i : Nat) : (s.erasePack i).stored = s.stored := rfl
@[simp] theorem State.erasePack_writeList (i : Nat) : (s.erasePack i).writeList = s.writeList := rfl
@[simp] theorem State.erasePack_writing (i : Nat) : (s.erasePack i).writing = s.writing := rfl
@[simp] theorem State.erasePack_retained (i : Nat) : (s.erasePack i).retained = s.retained := rfl
@[simp] theorem State.erasePack_marks (i : Nat) : (s.erasePack i).marks = s.marks := rfl

@[simp] theorem State.movePack_pending (i : Nat) (st : PackState) (l : Loc) : (s.movePack i st l).pending = s.pending := rfl
@[simp] theorem State.movePack_supply (i : Nat) (st : PackState) (l : Loc) : (s.movePack i st l).supply = s.supply := rfl
@[simp] theorem State.movePack_cond (i : Nat) (st : PackState) (l : Loc) : (s.movePack i st l).cond = s.cond := rfl
@[simp] theorem State.movePack_cause (i : Nat) (st : PackState) (l : Loc) : (s.movePack i st l).cause = s.cause := rfl
@[simp] theorem State.movePack_strap (i : Nat) (st : PackState) (l : Loc) : (s.movePack i st l).strap = s.strap := rfl
@[simp] theorem State.movePack_ports (i : Nat) (st : PackState) (l : Loc) : (s.movePack i st l).ports = s.ports := rfl
@[simp] theorem State.movePack_packs (i : Nat) (st : PackState) (l : Loc) : (s.movePack i st l).packs = Tab.modify s.packs i (fun p => p.moveTo st l) := rfl
@[simp] theorem State.movePack_stacks (i : Nat) (st : PackState) (l : Loc) : (s.movePack i st l).stackMap = s.stackMap := rfl
@[simp] theorem State.movePack_touches (i : Nat) (st : PackState) (l : Loc) : (s.movePack i st l).touches = s.touches := rfl
@[simp] theorem State.movePack_backlog (i : Nat) (st : PackState) (l : Loc) : (s.movePack i st l).backlog = s.backlog := rfl
@[simp] theorem State.movePack_stocktake (i : Nat) (st : PackState) (l : Loc) : (s.movePack i st l).stocktake = s.stocktake := rfl
@[simp] theorem State.movePack_deck (i : Nat) (st : PackState) (l : Loc) : (s.movePack i st l).deck = s.deck := rfl
@[simp] theorem State.movePack_trucks (i : Nat) (st : PackState) (l : Loc) : (s.movePack i st l).trucks = s.trucks := rfl
@[simp] theorem State.movePack_arrivals (i : Nat) (st : PackState) (l : Loc) : (s.movePack i st l).arrivals = s.arrivals := rfl
@[simp] theorem State.movePack_waiting (i : Nat) (st : PackState) (l : Loc) : (s.movePack i st l).waiting = s.waiting := rfl
@[simp] theorem State.movePack_returns (i : Nat) (st : PackState) (l : Loc) : (s.movePack i st l).returns = s.returns := rfl
@[simp] theorem State.movePack_planQueue (i : Nat) (st : PackState) (l : Loc) : (s.movePack i st l).planQueue = s.planQueue := rfl
@[simp] theorem State.movePack_plan (i : Nat) (st : PackState) (l : Loc) : (s.movePack i st l).plan = s.plan := rfl
@[simp] theorem State.movePack_tasks (i : Nat) (st : PackState) (l : Loc) : (s.movePack i st l).tasks = s.tasks := rfl
@[simp] theorem State.movePack_lastId (i : Nat) (st : PackState) (l : Loc) : (s.movePack i st l).lastId = s.lastId := rfl
@[simp] theorem State.movePack_loaders (i : Nat) (st : PackState) (l : Loc) : (s.movePack i st l).loaders = s.loaders := rfl
@[simp] theorem State.movePack_shipLog (i : Nat) (st : PackState) (l : Loc) : (s.movePack i st l).shipLog = s.shipLog := rfl
@[simp] theorem State.movePack_flags (i : Nat) (st : PackState) (l : Loc) : (s.movePack i st l).flags = s.flags := rfl
@[simp] theorem State.movePack_pins (i : Nat) (st : PackState) (l : Loc) : (s.movePack i st l).pins = s.pins := rfl
@[simp] theorem State.movePack_clock (i : Nat) (st : PackState) (l : Loc) : (s.movePack i st l).clock = s.clock := rfl
@[simp] theorem State.movePack_wet (i : Nat) (st : PackState) (l : Loc) : (s.movePack i st l).wet = s.wet := rfl
@[simp] theorem State.movePack_working (i : Nat) (st : PackState) (l : Loc) : (s.movePack i st l).working = s.working := rfl
@[simp] theorem State.movePack_stored (i : Nat) (st : PackState) (l : Loc) : (s.movePack i st l).stored = s.stored := rfl
@[simp] theorem State.movePack_writeList (i : Nat) (st : PackState) (l : Loc) : (s.movePack i st l).writeList = s.writeList := rfl
@[simp] theorem State.movePack_writing (i : Nat) (st : PackState) (l : Loc) : (s.movePack i st l).writing = s.writing := rfl
@[simp] theorem State.movePack_retained (i : Nat) (st : PackState) (l : Loc) : (s.movePack i st l).retained = s.retained := rfl
@[simp] theorem State.movePack_marks (i : Nat) (st : PackState) (l : Loc) : (s.movePack i st l).marks = s.marks := rfl

@[simp] theorem State.setHold_pending (i : Nat) (h : Bool) : (s.setHold i h).pending = s.pending := rfl
@[simp] theorem State.setHold_supply (i : Nat) (h : Bool) : (s.setHold i h).supply = s.supply := rfl
@[simp] theorem State.setHold_cond (i : Nat) (h : Bool) : (s.setHold i h).cond = s.cond := rfl
@[simp] theorem State.setHold_cause (i : Nat) (h : Bool) : (s.setHold i h).cause = s.cause := rfl
@[simp] theorem State.setHold_strap (i : Nat) (h : Bool) : (s.setHold i h).strap = s.strap := rfl
@[simp] theorem State.setHold_ports (i : Nat) (h : Bool) : (s.setHold i h).ports = s.ports := rfl
@[simp] theorem State.setHold_packs (i : Nat) (h : Bool) : (s.setHold i h).packs = Tab.modify s.packs i (fun p => { p with hold := h }) := rfl
@[simp] theorem State.setHold_stacks (i : Nat) (h : Bool) : (s.setHold i h).stackMap = s.stackMap := rfl
@[simp] theorem State.setHold_touches (i : Nat) (h : Bool) : (s.setHold i h).touches = s.touches := rfl
@[simp] theorem State.setHold_backlog (i : Nat) (h : Bool) : (s.setHold i h).backlog = s.backlog := rfl
@[simp] theorem State.setHold_stocktake (i : Nat) (h : Bool) : (s.setHold i h).stocktake = s.stocktake := rfl
@[simp] theorem State.setHold_deck (i : Nat) (h : Bool) : (s.setHold i h).deck = s.deck := rfl
@[simp] theorem State.setHold_trucks (i : Nat) (h : Bool) : (s.setHold i h).trucks = s.trucks := rfl
@[simp] theorem State.setHold_arrivals (i : Nat) (h : Bool) : (s.setHold i h).arrivals = s.arrivals := rfl
@[simp] theorem State.setHold_waiting (i : Nat) (h : Bool) : (s.setHold i h).waiting = s.waiting := rfl
@[simp] theorem State.setHold_returns (i : Nat) (h : Bool) : (s.setHold i h).returns = s.returns := rfl
@[simp] theorem State.setHold_planQueue (i : Nat) (h : Bool) : (s.setHold i h).planQueue = s.planQueue := rfl
@[simp] theorem State.setHold_plan (i : Nat) (h : Bool) : (s.setHold i h).plan = s.plan := rfl
@[simp] theorem State.setHold_tasks (i : Nat) (h : Bool) : (s.setHold i h).tasks = s.tasks := rfl
@[simp] theorem State.setHold_lastId (i : Nat) (h : Bool) : (s.setHold i h).lastId = s.lastId := rfl
@[simp] theorem State.setHold_loaders (i : Nat) (h : Bool) : (s.setHold i h).loaders = s.loaders := rfl
@[simp] theorem State.setHold_shipLog (i : Nat) (h : Bool) : (s.setHold i h).shipLog = s.shipLog := rfl
@[simp] theorem State.setHold_flags (i : Nat) (h : Bool) : (s.setHold i h).flags = s.flags := rfl
@[simp] theorem State.setHold_pins (i : Nat) (h : Bool) : (s.setHold i h).pins = s.pins := rfl
@[simp] theorem State.setHold_clock (i : Nat) (h : Bool) : (s.setHold i h).clock = s.clock := rfl
@[simp] theorem State.setHold_wet (i : Nat) (h : Bool) : (s.setHold i h).wet = s.wet := rfl
@[simp] theorem State.setHold_working (i : Nat) (h : Bool) : (s.setHold i h).working = s.working := rfl
@[simp] theorem State.setHold_stored (i : Nat) (h : Bool) : (s.setHold i h).stored = s.stored := rfl
@[simp] theorem State.setHold_writeList (i : Nat) (h : Bool) : (s.setHold i h).writeList = s.writeList := rfl
@[simp] theorem State.setHold_writing (i : Nat) (h : Bool) : (s.setHold i h).writing = s.writing := rfl
@[simp] theorem State.setHold_retained (i : Nat) (h : Bool) : (s.setHold i h).retained = s.retained := rfl
@[simp] theorem State.setHold_marks (i : Nat) (h : Bool) : (s.setHold i h).marks = s.marks := rfl

@[simp] theorem State.orphan_pending (i : Nat) : (s.orphan i).pending = s.pending := rfl
@[simp] theorem State.orphan_supply (i : Nat) : (s.orphan i).supply = s.supply := rfl
@[simp] theorem State.orphan_cond (i : Nat) : (s.orphan i).cond = s.cond := rfl
@[simp] theorem State.orphan_cause (i : Nat) : (s.orphan i).cause = s.cause := rfl
@[simp] theorem State.orphan_strap (i : Nat) : (s.orphan i).strap = s.strap := rfl
@[simp] theorem State.orphan_ports (i : Nat) : (s.orphan i).ports = s.ports := rfl
@[simp] theorem State.orphan_stacks (i : Nat) : (s.orphan i).stackMap = s.stackMap := rfl
@[simp] theorem State.orphan_touches (i : Nat) : (s.orphan i).touches = s.touches := rfl
@[simp] theorem State.orphan_backlog (i : Nat) : (s.orphan i).backlog = s.backlog := rfl
@[simp] theorem State.orphan_stocktake (i : Nat) : (s.orphan i).stocktake = s.stocktake := rfl
@[simp] theorem State.orphan_deck (i : Nat) : (s.orphan i).deck = s.deck := rfl
@[simp] theorem State.orphan_trucks (i : Nat) : (s.orphan i).trucks = s.trucks := rfl
@[simp] theorem State.orphan_arrivals (i : Nat) : (s.orphan i).arrivals = s.arrivals := rfl
@[simp] theorem State.orphan_waiting (i : Nat) : (s.orphan i).waiting = s.waiting := rfl
@[simp] theorem State.orphan_returns (i : Nat) : (s.orphan i).returns = s.returns := rfl
@[simp] theorem State.orphan_planQueue (i : Nat) : (s.orphan i).planQueue = s.planQueue := rfl
@[simp] theorem State.orphan_plan (i : Nat) : (s.orphan i).plan = s.plan := rfl
@[simp] theorem State.orphan_tasks (i : Nat) : (s.orphan i).tasks = s.tasks := rfl
@[simp] theorem State.orphan_lastId (i : Nat) : (s.orphan i).lastId = s.lastId := rfl
@[simp] theorem State.orphan_loaders (i : Nat) : (s.orphan i).loaders = s.loaders := rfl
@[simp] theorem State.orphan_shipLog (i : Nat) : (s.orphan i).shipLog = s.shipLog := rfl
@[simp] theorem State.orphan_flags (i : Nat) : (s.orphan i).flags = s.flags := rfl
@[simp] theorem State.orphan_pins (i : Nat) : (s.orphan i).pins = s.pins := rfl
@[simp] theorem State.orphan_clock (i : Nat) : (s.orphan i).clock = s.clock := rfl
@[simp] theorem State.orphan_wet (i : Nat) : (s.orphan i).wet = s.wet := rfl
@[simp] theorem State.orphan_working (i : Nat) : (s.orphan i).working = s.working := rfl
@[simp] theorem State.orphan_stored (i : Nat) : (s.orphan i).stored = s.stored := rfl
@[simp] theorem State.orphan_writeList (i : Nat) : (s.orphan i).writeList = s.writeList := rfl
@[simp] theorem State.orphan_writing (i : Nat) : (s.orphan i).writing = s.writing := rfl
@[simp] theorem State.orphan_retained (i : Nat) : (s.orphan i).retained = s.retained := rfl
@[simp] theorem State.orphan_marks (i : Nat) : (s.orphan i).marks = s.marks := rfl

@[simp] theorem State.makeLost_pending (i : Nat) : (s.makeLost i).pending = s.pending := rfl
@[simp] theorem State.makeLost_supply (i : Nat) : (s.makeLost i).supply = s.supply := rfl
@[simp] theorem State.makeLost_cond (i : Nat) : (s.makeLost i).cond = s.cond := rfl
@[simp] theorem State.makeLost_cause (i : Nat) : (s.makeLost i).cause = s.cause := rfl
@[simp] theorem State.makeLost_strap (i : Nat) : (s.makeLost i).strap = s.strap := rfl
@[simp] theorem State.makeLost_ports (i : Nat) : (s.makeLost i).ports = s.ports := rfl
@[simp] theorem State.makeLost_packs (i : Nat) : (s.makeLost i).packs = Tab.modify s.packs i (fun p => p.moveTo .lost .none) := rfl
@[simp] theorem State.makeLost_stacks (i : Nat) : (s.makeLost i).stackMap = s.stackMap := rfl
@[simp] theorem State.makeLost_touches (i : Nat) : (s.makeLost i).touches = s.touches := rfl
@[simp] theorem State.makeLost_backlog (i : Nat) : (s.makeLost i).backlog = s.backlog := rfl
@[simp] theorem State.makeLost_stocktake (i : Nat) : (s.makeLost i).stocktake = s.stocktake := rfl
@[simp] theorem State.makeLost_deck (i : Nat) : (s.makeLost i).deck = s.deck := rfl
@[simp] theorem State.makeLost_trucks (i : Nat) : (s.makeLost i).trucks = s.trucks := rfl
@[simp] theorem State.makeLost_arrivals (i : Nat) : (s.makeLost i).arrivals = s.arrivals := rfl
@[simp] theorem State.makeLost_waiting (i : Nat) : (s.makeLost i).waiting = s.waiting := rfl
@[simp] theorem State.makeLost_returns (i : Nat) : (s.makeLost i).returns = s.returns := rfl
@[simp] theorem State.makeLost_planQueue (i : Nat) : (s.makeLost i).planQueue = s.planQueue := rfl
@[simp] theorem State.makeLost_plan (i : Nat) : (s.makeLost i).plan = s.plan := rfl
@[simp] theorem State.makeLost_tasks (i : Nat) : (s.makeLost i).tasks = s.tasks := rfl
@[simp] theorem State.makeLost_lastId (i : Nat) : (s.makeLost i).lastId = s.lastId := rfl
@[simp] theorem State.makeLost_loaders (i : Nat) : (s.makeLost i).loaders = s.loaders := rfl
@[simp] theorem State.makeLost_shipLog (i : Nat) : (s.makeLost i).shipLog = s.shipLog := rfl
@[simp] theorem State.makeLost_flags (i : Nat) : (s.makeLost i).flags = s.flags := rfl
@[simp] theorem State.makeLost_pins (i : Nat) : (s.makeLost i).pins = s.pins := rfl
@[simp] theorem State.makeLost_clock (i : Nat) : (s.makeLost i).clock = s.clock := rfl
@[simp] theorem State.makeLost_wet (i : Nat) : (s.makeLost i).wet = s.wet := rfl
@[simp] theorem State.makeLost_working (i : Nat) : (s.makeLost i).working = s.working := rfl
@[simp] theorem State.makeLost_stored (i : Nat) : (s.makeLost i).stored = s.stored := rfl
@[simp] theorem State.makeLost_writeList (i : Nat) : (s.makeLost i).writeList = s.writeList := rfl
@[simp] theorem State.makeLost_writing (i : Nat) : (s.makeLost i).writing = s.writing := rfl
@[simp] theorem State.makeLost_retained (i : Nat) : (s.makeLost i).retained = s.retained := rfl
@[simp] theorem State.makeLost_marks (i : Nat) : (s.makeLost i).marks = s.marks := rfl

@[simp] theorem State.setStack_pending (id : Nat) (k : Stack) : (s.setStack id k).pending = s.pending := rfl
@[simp] theorem State.setStack_supply (id : Nat) (k : Stack) : (s.setStack id k).supply = s.supply := rfl
@[simp] theorem State.setStack_cond (id : Nat) (k : Stack) : (s.setStack id k).cond = s.cond := rfl
@[simp] theorem State.setStack_cause (id : Nat) (k : Stack) : (s.setStack id k).cause = s.cause := rfl
@[simp] theorem State.setStack_strap (id : Nat) (k : Stack) : (s.setStack id k).strap = s.strap := rfl
@[simp] theorem State.setStack_ports (id : Nat) (k : Stack) : (s.setStack id k).ports = s.ports := rfl
@[simp] theorem State.setStack_packs (id : Nat) (k : Stack) : (s.setStack id k).packs = s.packs := rfl
@[simp] theorem State.setStack_stacks (id : Nat) (k : Stack) : (s.setStack id k).stackMap = Tab.putD Stack.bare s.stackMap id k := rfl
@[simp] theorem State.setStack_touches (id : Nat) (k : Stack) : (s.setStack id k).touches = s.touches := rfl
@[simp] theorem State.setStack_backlog (id : Nat) (k : Stack) : (s.setStack id k).backlog = s.backlog := rfl
@[simp] theorem State.setStack_stocktake (id : Nat) (k : Stack) : (s.setStack id k).stocktake = s.stocktake := rfl
@[simp] theorem State.setStack_deck (id : Nat) (k : Stack) : (s.setStack id k).deck = s.deck := rfl
@[simp] theorem State.setStack_trucks (id : Nat) (k : Stack) : (s.setStack id k).trucks = s.trucks := rfl
@[simp] theorem State.setStack_arrivals (id : Nat) (k : Stack) : (s.setStack id k).arrivals = s.arrivals := rfl
@[simp] theorem State.setStack_waiting (id : Nat) (k : Stack) : (s.setStack id k).waiting = s.waiting := rfl
@[simp] theorem State.setStack_returns (id : Nat) (k : Stack) : (s.setStack id k).returns = s.returns := rfl
@[simp] theorem State.setStack_planQueue (id : Nat) (k : Stack) : (s.setStack id k).planQueue = s.planQueue := rfl
@[simp] theorem State.setStack_plan (id : Nat) (k : Stack) : (s.setStack id k).plan = s.plan := rfl
@[simp] theorem State.setStack_tasks (id : Nat) (k : Stack) : (s.setStack id k).tasks = s.tasks := rfl
@[simp] theorem State.setStack_lastId (id : Nat) (k : Stack) : (s.setStack id k).lastId = s.lastId := rfl
@[simp] theorem State.setStack_loaders (id : Nat) (k : Stack) : (s.setStack id k).loaders = s.loaders := rfl
@[simp] theorem State.setStack_shipLog (id : Nat) (k : Stack) : (s.setStack id k).shipLog = s.shipLog := rfl
@[simp] theorem State.setStack_flags (id : Nat) (k : Stack) : (s.setStack id k).flags = s.flags := rfl
@[simp] theorem State.setStack_pins (id : Nat) (k : Stack) : (s.setStack id k).pins = s.pins := rfl
@[simp] theorem State.setStack_clock (id : Nat) (k : Stack) : (s.setStack id k).clock = s.clock := rfl
@[simp] theorem State.setStack_wet (id : Nat) (k : Stack) : (s.setStack id k).wet = s.wet := rfl
@[simp] theorem State.setStack_working (id : Nat) (k : Stack) : (s.setStack id k).working = s.working := rfl
@[simp] theorem State.setStack_stored (id : Nat) (k : Stack) : (s.setStack id k).stored = s.stored := rfl
@[simp] theorem State.setStack_writeList (id : Nat) (k : Stack) : (s.setStack id k).writeList = s.writeList := rfl
@[simp] theorem State.setStack_writing (id : Nat) (k : Stack) : (s.setStack id k).writing = s.writing := rfl
@[simp] theorem State.setStack_retained (id : Nat) (k : Stack) : (s.setStack id k).retained = s.retained := rfl
@[simp] theorem State.setStack_marks (id : Nat) (k : Stack) : (s.setStack id k).marks = s.marks := rfl

@[simp] theorem State.pushStack_pending (id pack : Nat) : (s.pushStack id pack).pending = s.pending := rfl
@[simp] theorem State.pushStack_supply (id pack : Nat) : (s.pushStack id pack).supply = s.supply := rfl
@[simp] theorem State.pushStack_cond (id pack : Nat) : (s.pushStack id pack).cond = s.cond := rfl
@[simp] theorem State.pushStack_cause (id pack : Nat) : (s.pushStack id pack).cause = s.cause := rfl
@[simp] theorem State.pushStack_strap (id pack : Nat) : (s.pushStack id pack).strap = s.strap := rfl
@[simp] theorem State.pushStack_ports (id pack : Nat) : (s.pushStack id pack).ports = s.ports := rfl
@[simp] theorem State.pushStack_packs (id pack : Nat) : (s.pushStack id pack).packs = s.packs := rfl
@[simp] theorem State.pushStack_touches (id pack : Nat) : (s.pushStack id pack).touches = s.touches := rfl
@[simp] theorem State.pushStack_backlog (id pack : Nat) : (s.pushStack id pack).backlog = s.backlog := rfl
@[simp] theorem State.pushStack_stocktake (id pack : Nat) : (s.pushStack id pack).stocktake = s.stocktake := rfl
@[simp] theorem State.pushStack_deck (id pack : Nat) : (s.pushStack id pack).deck = s.deck := rfl
@[simp] theorem State.pushStack_trucks (id pack : Nat) : (s.pushStack id pack).trucks = s.trucks := rfl
@[simp] theorem State.pushStack_arrivals (id pack : Nat) : (s.pushStack id pack).arrivals = s.arrivals := rfl
@[simp] theorem State.pushStack_waiting (id pack : Nat) : (s.pushStack id pack).waiting = s.waiting := rfl
@[simp] theorem State.pushStack_returns (id pack : Nat) : (s.pushStack id pack).returns = s.returns := rfl
@[simp] theorem State.pushStack_planQueue (id pack : Nat) : (s.pushStack id pack).planQueue = s.planQueue := rfl
@[simp] theorem State.pushStack_plan (id pack : Nat) : (s.pushStack id pack).plan = s.plan := rfl
@[simp] theorem State.pushStack_tasks (id pack : Nat) : (s.pushStack id pack).tasks = s.tasks := rfl
@[simp] theorem State.pushStack_lastId (id pack : Nat) : (s.pushStack id pack).lastId = s.lastId := rfl
@[simp] theorem State.pushStack_loaders (id pack : Nat) : (s.pushStack id pack).loaders = s.loaders := rfl
@[simp] theorem State.pushStack_shipLog (id pack : Nat) : (s.pushStack id pack).shipLog = s.shipLog := rfl
@[simp] theorem State.pushStack_flags (id pack : Nat) : (s.pushStack id pack).flags = s.flags := rfl
@[simp] theorem State.pushStack_pins (id pack : Nat) : (s.pushStack id pack).pins = s.pins := rfl
@[simp] theorem State.pushStack_clock (id pack : Nat) : (s.pushStack id pack).clock = s.clock := rfl
@[simp] theorem State.pushStack_wet (id pack : Nat) : (s.pushStack id pack).wet = s.wet := rfl
@[simp] theorem State.pushStack_working (id pack : Nat) : (s.pushStack id pack).working = s.working := rfl
@[simp] theorem State.pushStack_stored (id pack : Nat) : (s.pushStack id pack).stored = s.stored := rfl
@[simp] theorem State.pushStack_writeList (id pack : Nat) : (s.pushStack id pack).writeList = s.writeList := rfl
@[simp] theorem State.pushStack_writing (id pack : Nat) : (s.pushStack id pack).writing = s.writing := rfl
@[simp] theorem State.pushStack_retained (id pack : Nat) : (s.pushStack id pack).retained = s.retained := rfl
@[simp] theorem State.pushStack_marks (id pack : Nat) : (s.pushStack id pack).marks = s.marks := rfl

@[simp] theorem State.pullStack_pending (id pack : Nat) : (s.pullStack id pack).pending = s.pending := rfl
@[simp] theorem State.pullStack_supply (id pack : Nat) : (s.pullStack id pack).supply = s.supply := rfl
@[simp] theorem State.pullStack_cond (id pack : Nat) : (s.pullStack id pack).cond = s.cond := rfl
@[simp] theorem State.pullStack_cause (id pack : Nat) : (s.pullStack id pack).cause = s.cause := rfl
@[simp] theorem State.pullStack_strap (id pack : Nat) : (s.pullStack id pack).strap = s.strap := rfl
@[simp] theorem State.pullStack_ports (id pack : Nat) : (s.pullStack id pack).ports = s.ports := rfl
@[simp] theorem State.pullStack_packs (id pack : Nat) : (s.pullStack id pack).packs = s.packs := rfl
@[simp] theorem State.pullStack_touches (id pack : Nat) : (s.pullStack id pack).touches = s.touches := rfl
@[simp] theorem State.pullStack_backlog (id pack : Nat) : (s.pullStack id pack).backlog = s.backlog := rfl
@[simp] theorem State.pullStack_stocktake (id pack : Nat) : (s.pullStack id pack).stocktake = s.stocktake := rfl
@[simp] theorem State.pullStack_deck (id pack : Nat) : (s.pullStack id pack).deck = s.deck := rfl
@[simp] theorem State.pullStack_trucks (id pack : Nat) : (s.pullStack id pack).trucks = s.trucks := rfl
@[simp] theorem State.pullStack_arrivals (id pack : Nat) : (s.pullStack id pack).arrivals = s.arrivals := rfl
@[simp] theorem State.pullStack_waiting (id pack : Nat) : (s.pullStack id pack).waiting = s.waiting := rfl
@[simp] theorem State.pullStack_returns (id pack : Nat) : (s.pullStack id pack).returns = s.returns := rfl
@[simp] theorem State.pullStack_planQueue (id pack : Nat) : (s.pullStack id pack).planQueue = s.planQueue := rfl
@[simp] theorem State.pullStack_plan (id pack : Nat) : (s.pullStack id pack).plan = s.plan := rfl
@[simp] theorem State.pullStack_tasks (id pack : Nat) : (s.pullStack id pack).tasks = s.tasks := rfl
@[simp] theorem State.pullStack_lastId (id pack : Nat) : (s.pullStack id pack).lastId = s.lastId := rfl
@[simp] theorem State.pullStack_loaders (id pack : Nat) : (s.pullStack id pack).loaders = s.loaders := rfl
@[simp] theorem State.pullStack_shipLog (id pack : Nat) : (s.pullStack id pack).shipLog = s.shipLog := rfl
@[simp] theorem State.pullStack_flags (id pack : Nat) : (s.pullStack id pack).flags = s.flags := rfl
@[simp] theorem State.pullStack_pins (id pack : Nat) : (s.pullStack id pack).pins = s.pins := rfl
@[simp] theorem State.pullStack_clock (id pack : Nat) : (s.pullStack id pack).clock = s.clock := rfl
@[simp] theorem State.pullStack_wet (id pack : Nat) : (s.pullStack id pack).wet = s.wet := rfl
@[simp] theorem State.pullStack_working (id pack : Nat) : (s.pullStack id pack).working = s.working := rfl
@[simp] theorem State.pullStack_stored (id pack : Nat) : (s.pullStack id pack).stored = s.stored := rfl
@[simp] theorem State.pullStack_writeList (id pack : Nat) : (s.pullStack id pack).writeList = s.writeList := rfl
@[simp] theorem State.pullStack_writing (id pack : Nat) : (s.pullStack id pack).writing = s.writing := rfl
@[simp] theorem State.pullStack_retained (id pack : Nat) : (s.pullStack id pack).retained = s.retained := rfl
@[simp] theorem State.pullStack_marks (id pack : Nat) : (s.pullStack id pack).marks = s.marks := rfl

@[simp] theorem State.updateTask_pending (id : Nat) (f : Task → Task) : (s.updateTask id f).pending = s.pending := rfl
@[simp] theorem State.updateTask_supply (id : Nat) (f : Task → Task) : (s.updateTask id f).supply = s.supply := rfl
@[simp] theorem State.updateTask_cond (id : Nat) (f : Task → Task) : (s.updateTask id f).cond = s.cond := rfl
@[simp] theorem State.updateTask_cause (id : Nat) (f : Task → Task) : (s.updateTask id f).cause = s.cause := rfl
@[simp] theorem State.updateTask_strap (id : Nat) (f : Task → Task) : (s.updateTask id f).strap = s.strap := rfl
@[simp] theorem State.updateTask_ports (id : Nat) (f : Task → Task) : (s.updateTask id f).ports = s.ports := rfl
@[simp] theorem State.updateTask_packs (id : Nat) (f : Task → Task) : (s.updateTask id f).packs = s.packs := rfl
@[simp] theorem State.updateTask_stacks (id : Nat) (f : Task → Task) : (s.updateTask id f).stackMap = s.stackMap := rfl
@[simp] theorem State.updateTask_touches (id : Nat) (f : Task → Task) : (s.updateTask id f).touches = s.touches := rfl
@[simp] theorem State.updateTask_backlog (id : Nat) (f : Task → Task) : (s.updateTask id f).backlog = s.backlog := rfl
@[simp] theorem State.updateTask_stocktake (id : Nat) (f : Task → Task) : (s.updateTask id f).stocktake = s.stocktake := rfl
@[simp] theorem State.updateTask_deck (id : Nat) (f : Task → Task) : (s.updateTask id f).deck = s.deck := rfl
@[simp] theorem State.updateTask_trucks (id : Nat) (f : Task → Task) : (s.updateTask id f).trucks = s.trucks := rfl
@[simp] theorem State.updateTask_arrivals (id : Nat) (f : Task → Task) : (s.updateTask id f).arrivals = s.arrivals := rfl
@[simp] theorem State.updateTask_waiting (id : Nat) (f : Task → Task) : (s.updateTask id f).waiting = s.waiting := rfl
@[simp] theorem State.updateTask_returns (id : Nat) (f : Task → Task) : (s.updateTask id f).returns = s.returns := rfl
@[simp] theorem State.updateTask_planQueue (id : Nat) (f : Task → Task) : (s.updateTask id f).planQueue = s.planQueue := rfl
@[simp] theorem State.updateTask_plan (id : Nat) (f : Task → Task) : (s.updateTask id f).plan = s.plan := rfl
@[simp] theorem State.updateTask_tasks (id : Nat) (f : Task → Task) : (s.updateTask id f).tasks = s.tasks.map (fun t => if t.id = id then f t else t) := rfl
@[simp] theorem State.updateTask_lastId (id : Nat) (f : Task → Task) : (s.updateTask id f).lastId = s.lastId := rfl
@[simp] theorem State.updateTask_loaders (id : Nat) (f : Task → Task) : (s.updateTask id f).loaders = s.loaders := rfl
@[simp] theorem State.updateTask_shipLog (id : Nat) (f : Task → Task) : (s.updateTask id f).shipLog = s.shipLog := rfl
@[simp] theorem State.updateTask_flags (id : Nat) (f : Task → Task) : (s.updateTask id f).flags = s.flags := rfl
@[simp] theorem State.updateTask_pins (id : Nat) (f : Task → Task) : (s.updateTask id f).pins = s.pins := rfl
@[simp] theorem State.updateTask_clock (id : Nat) (f : Task → Task) : (s.updateTask id f).clock = s.clock := rfl
@[simp] theorem State.updateTask_wet (id : Nat) (f : Task → Task) : (s.updateTask id f).wet = s.wet := rfl
@[simp] theorem State.updateTask_working (id : Nat) (f : Task → Task) : (s.updateTask id f).working = s.working := rfl
@[simp] theorem State.updateTask_stored (id : Nat) (f : Task → Task) : (s.updateTask id f).stored = s.stored := rfl
@[simp] theorem State.updateTask_writeList (id : Nat) (f : Task → Task) : (s.updateTask id f).writeList = s.writeList := rfl
@[simp] theorem State.updateTask_writing (id : Nat) (f : Task → Task) : (s.updateTask id f).writing = s.writing := rfl
@[simp] theorem State.updateTask_retained (id : Nat) (f : Task → Task) : (s.updateTask id f).retained = s.retained := rfl
@[simp] theorem State.updateTask_marks (id : Nat) (f : Task → Task) : (s.updateTask id f).marks = s.marks := rfl

@[simp] theorem State.reassign_pending (f : Task → Bool) : (s.reassign f).pending = s.pending := rfl
@[simp] theorem State.reassign_supply (f : Task → Bool) : (s.reassign f).supply = s.supply := rfl
@[simp] theorem State.reassign_cond (f : Task → Bool) : (s.reassign f).cond = s.cond := rfl
@[simp] theorem State.reassign_cause (f : Task → Bool) : (s.reassign f).cause = s.cause := rfl
@[simp] theorem State.reassign_strap (f : Task → Bool) : (s.reassign f).strap = s.strap := rfl
@[simp] theorem State.reassign_ports (f : Task → Bool) : (s.reassign f).ports = s.ports := rfl
@[simp] theorem State.reassign_packs (f : Task → Bool) : (s.reassign f).packs = s.packs := rfl
@[simp] theorem State.reassign_stacks (f : Task → Bool) : (s.reassign f).stackMap = s.stackMap := rfl
@[simp] theorem State.reassign_touches (f : Task → Bool) : (s.reassign f).touches = s.touches := rfl
@[simp] theorem State.reassign_backlog (f : Task → Bool) : (s.reassign f).backlog = s.backlog := rfl
@[simp] theorem State.reassign_stocktake (f : Task → Bool) : (s.reassign f).stocktake = s.stocktake := rfl
@[simp] theorem State.reassign_deck (f : Task → Bool) : (s.reassign f).deck = s.deck := rfl
@[simp] theorem State.reassign_trucks (f : Task → Bool) : (s.reassign f).trucks = s.trucks := rfl
@[simp] theorem State.reassign_arrivals (f : Task → Bool) : (s.reassign f).arrivals = s.arrivals := rfl
@[simp] theorem State.reassign_waiting (f : Task → Bool) : (s.reassign f).waiting = s.waiting := rfl
@[simp] theorem State.reassign_returns (f : Task → Bool) : (s.reassign f).returns = s.returns := rfl
@[simp] theorem State.reassign_planQueue (f : Task → Bool) : (s.reassign f).planQueue = s.planQueue := rfl
@[simp] theorem State.reassign_plan (f : Task → Bool) : (s.reassign f).plan = s.plan := rfl
@[simp] theorem State.reassign_lastId (f : Task → Bool) : (s.reassign f).lastId = s.lastId := rfl
@[simp] theorem State.reassign_loaders (f : Task → Bool) : (s.reassign f).loaders = s.loaders := rfl
@[simp] theorem State.reassign_shipLog (f : Task → Bool) : (s.reassign f).shipLog = s.shipLog := rfl
@[simp] theorem State.reassign_flags (f : Task → Bool) : (s.reassign f).flags = s.flags := rfl
@[simp] theorem State.reassign_pins (f : Task → Bool) : (s.reassign f).pins = s.pins := rfl
@[simp] theorem State.reassign_clock (f : Task → Bool) : (s.reassign f).clock = s.clock := rfl
@[simp] theorem State.reassign_wet (f : Task → Bool) : (s.reassign f).wet = s.wet := rfl
@[simp] theorem State.reassign_working (f : Task → Bool) : (s.reassign f).working = s.working := rfl
@[simp] theorem State.reassign_stored (f : Task → Bool) : (s.reassign f).stored = s.stored := rfl
@[simp] theorem State.reassign_writeList (f : Task → Bool) : (s.reassign f).writeList = s.writeList := rfl
@[simp] theorem State.reassign_writing (f : Task → Bool) : (s.reassign f).writing = s.writing := rfl
@[simp] theorem State.reassign_retained (f : Task → Bool) : (s.reassign f).retained = s.retained := rfl
@[simp] theorem State.reassign_marks (f : Task → Bool) : (s.reassign f).marks = s.marks := rfl

@[simp] theorem State.joinOrder_pending (p : Place) (id : Nat) : (s.joinOrder p id).pending = s.pending := rfl
@[simp] theorem State.joinOrder_supply (p : Place) (id : Nat) : (s.joinOrder p id).supply = s.supply := rfl
@[simp] theorem State.joinOrder_cond (p : Place) (id : Nat) : (s.joinOrder p id).cond = s.cond := rfl
@[simp] theorem State.joinOrder_cause (p : Place) (id : Nat) : (s.joinOrder p id).cause = s.cause := rfl
@[simp] theorem State.joinOrder_strap (p : Place) (id : Nat) : (s.joinOrder p id).strap = s.strap := rfl
@[simp] theorem State.joinOrder_ports (p : Place) (id : Nat) : (s.joinOrder p id).ports = s.ports := rfl
@[simp] theorem State.joinOrder_packs (p : Place) (id : Nat) : (s.joinOrder p id).packs = s.packs := rfl
@[simp] theorem State.joinOrder_stacks (p : Place) (id : Nat) : (s.joinOrder p id).stackMap = s.stackMap := rfl
@[simp] theorem State.joinOrder_touches (p : Place) (id : Nat) : (s.joinOrder p id).touches = s.touches ++ [⟨p, id⟩] := rfl
@[simp] theorem State.joinOrder_backlog (p : Place) (id : Nat) : (s.joinOrder p id).backlog = s.backlog := rfl
@[simp] theorem State.joinOrder_stocktake (p : Place) (id : Nat) : (s.joinOrder p id).stocktake = s.stocktake := rfl
@[simp] theorem State.joinOrder_deck (p : Place) (id : Nat) : (s.joinOrder p id).deck = s.deck := rfl
@[simp] theorem State.joinOrder_trucks (p : Place) (id : Nat) : (s.joinOrder p id).trucks = s.trucks := rfl
@[simp] theorem State.joinOrder_arrivals (p : Place) (id : Nat) : (s.joinOrder p id).arrivals = s.arrivals := rfl
@[simp] theorem State.joinOrder_waiting (p : Place) (id : Nat) : (s.joinOrder p id).waiting = s.waiting := rfl
@[simp] theorem State.joinOrder_returns (p : Place) (id : Nat) : (s.joinOrder p id).returns = s.returns := rfl
@[simp] theorem State.joinOrder_planQueue (p : Place) (id : Nat) : (s.joinOrder p id).planQueue = s.planQueue := rfl
@[simp] theorem State.joinOrder_plan (p : Place) (id : Nat) : (s.joinOrder p id).plan = s.plan := rfl
@[simp] theorem State.joinOrder_tasks (p : Place) (id : Nat) : (s.joinOrder p id).tasks = s.tasks := rfl
@[simp] theorem State.joinOrder_lastId (p : Place) (id : Nat) : (s.joinOrder p id).lastId = s.lastId := rfl
@[simp] theorem State.joinOrder_loaders (p : Place) (id : Nat) : (s.joinOrder p id).loaders = s.loaders := rfl
@[simp] theorem State.joinOrder_shipLog (p : Place) (id : Nat) : (s.joinOrder p id).shipLog = s.shipLog := rfl
@[simp] theorem State.joinOrder_flags (p : Place) (id : Nat) : (s.joinOrder p id).flags = s.flags := rfl
@[simp] theorem State.joinOrder_pins (p : Place) (id : Nat) : (s.joinOrder p id).pins = s.pins := rfl
@[simp] theorem State.joinOrder_clock (p : Place) (id : Nat) : (s.joinOrder p id).clock = s.clock := rfl
@[simp] theorem State.joinOrder_wet (p : Place) (id : Nat) : (s.joinOrder p id).wet = s.wet := rfl
@[simp] theorem State.joinOrder_working (p : Place) (id : Nat) : (s.joinOrder p id).working = s.working := rfl
@[simp] theorem State.joinOrder_stored (p : Place) (id : Nat) : (s.joinOrder p id).stored = s.stored := rfl
@[simp] theorem State.joinOrder_writeList (p : Place) (id : Nat) : (s.joinOrder p id).writeList = s.writeList := rfl
@[simp] theorem State.joinOrder_writing (p : Place) (id : Nat) : (s.joinOrder p id).writing = s.writing := rfl
@[simp] theorem State.joinOrder_retained (p : Place) (id : Nat) : (s.joinOrder p id).retained = s.retained := rfl
@[simp] theorem State.joinOrder_marks (p : Place) (id : Nat) : (s.joinOrder p id).marks = s.marks := rfl

@[simp] theorem State.leaveOrder_pending (p : Place) (id : Nat) : (s.leaveOrder p id).pending = s.pending := rfl
@[simp] theorem State.leaveOrder_supply (p : Place) (id : Nat) : (s.leaveOrder p id).supply = s.supply := rfl
@[simp] theorem State.leaveOrder_cond (p : Place) (id : Nat) : (s.leaveOrder p id).cond = s.cond := rfl
@[simp] theorem State.leaveOrder_cause (p : Place) (id : Nat) : (s.leaveOrder p id).cause = s.cause := rfl
@[simp] theorem State.leaveOrder_strap (p : Place) (id : Nat) : (s.leaveOrder p id).strap = s.strap := rfl
@[simp] theorem State.leaveOrder_ports (p : Place) (id : Nat) : (s.leaveOrder p id).ports = s.ports := rfl
@[simp] theorem State.leaveOrder_packs (p : Place) (id : Nat) : (s.leaveOrder p id).packs = s.packs := rfl
@[simp] theorem State.leaveOrder_stacks (p : Place) (id : Nat) : (s.leaveOrder p id).stackMap = s.stackMap := rfl
@[simp] theorem State.leaveOrder_touches (p : Place) (id : Nat) : (s.leaveOrder p id).touches = s.touches.filter (fun t => !(t.place == p && t.task == id)) := rfl
@[simp] theorem State.leaveOrder_backlog (p : Place) (id : Nat) : (s.leaveOrder p id).backlog = s.backlog := rfl
@[simp] theorem State.leaveOrder_stocktake (p : Place) (id : Nat) : (s.leaveOrder p id).stocktake = s.stocktake := rfl
@[simp] theorem State.leaveOrder_deck (p : Place) (id : Nat) : (s.leaveOrder p id).deck = s.deck := rfl
@[simp] theorem State.leaveOrder_trucks (p : Place) (id : Nat) : (s.leaveOrder p id).trucks = s.trucks := rfl
@[simp] theorem State.leaveOrder_arrivals (p : Place) (id : Nat) : (s.leaveOrder p id).arrivals = s.arrivals := rfl
@[simp] theorem State.leaveOrder_waiting (p : Place) (id : Nat) : (s.leaveOrder p id).waiting = s.waiting := rfl
@[simp] theorem State.leaveOrder_returns (p : Place) (id : Nat) : (s.leaveOrder p id).returns = s.returns := rfl
@[simp] theorem State.leaveOrder_planQueue (p : Place) (id : Nat) : (s.leaveOrder p id).planQueue = s.planQueue := rfl
@[simp] theorem State.leaveOrder_plan (p : Place) (id : Nat) : (s.leaveOrder p id).plan = s.plan := rfl
@[simp] theorem State.leaveOrder_tasks (p : Place) (id : Nat) : (s.leaveOrder p id).tasks = s.tasks := rfl
@[simp] theorem State.leaveOrder_lastId (p : Place) (id : Nat) : (s.leaveOrder p id).lastId = s.lastId := rfl
@[simp] theorem State.leaveOrder_loaders (p : Place) (id : Nat) : (s.leaveOrder p id).loaders = s.loaders := rfl
@[simp] theorem State.leaveOrder_shipLog (p : Place) (id : Nat) : (s.leaveOrder p id).shipLog = s.shipLog := rfl
@[simp] theorem State.leaveOrder_flags (p : Place) (id : Nat) : (s.leaveOrder p id).flags = s.flags := rfl
@[simp] theorem State.leaveOrder_pins (p : Place) (id : Nat) : (s.leaveOrder p id).pins = s.pins := rfl
@[simp] theorem State.leaveOrder_clock (p : Place) (id : Nat) : (s.leaveOrder p id).clock = s.clock := rfl
@[simp] theorem State.leaveOrder_wet (p : Place) (id : Nat) : (s.leaveOrder p id).wet = s.wet := rfl
@[simp] theorem State.leaveOrder_working (p : Place) (id : Nat) : (s.leaveOrder p id).working = s.working := rfl
@[simp] theorem State.leaveOrder_stored (p : Place) (id : Nat) : (s.leaveOrder p id).stored = s.stored := rfl
@[simp] theorem State.leaveOrder_writeList (p : Place) (id : Nat) : (s.leaveOrder p id).writeList = s.writeList := rfl
@[simp] theorem State.leaveOrder_writing (p : Place) (id : Nat) : (s.leaveOrder p id).writing = s.writing := rfl
@[simp] theorem State.leaveOrder_retained (p : Place) (id : Nat) : (s.leaveOrder p id).retained = s.retained := rfl
@[simp] theorem State.leaveOrder_marks (p : Place) (id : Nat) : (s.leaveOrder p id).marks = s.marks := rfl

@[simp] theorem State.resolveTo_pending (id k : Nat) : (s.resolveTo id k).pending = s.pending := rfl
@[simp] theorem State.resolveTo_supply (id k : Nat) : (s.resolveTo id k).supply = s.supply := rfl
@[simp] theorem State.resolveTo_cond (id k : Nat) : (s.resolveTo id k).cond = s.cond := rfl
@[simp] theorem State.resolveTo_cause (id k : Nat) : (s.resolveTo id k).cause = s.cause := rfl
@[simp] theorem State.resolveTo_strap (id k : Nat) : (s.resolveTo id k).strap = s.strap := rfl
@[simp] theorem State.resolveTo_ports (id k : Nat) : (s.resolveTo id k).ports = s.ports := rfl
@[simp] theorem State.resolveTo_packs (id k : Nat) : (s.resolveTo id k).packs = s.packs := rfl
@[simp] theorem State.resolveTo_stacks (id k : Nat) : (s.resolveTo id k).stackMap = s.stackMap := rfl
@[simp] theorem State.resolveTo_touches (id k : Nat) : (s.resolveTo id k).touches = s.touches ++ [⟨.stack k, id⟩] := rfl
@[simp] theorem State.resolveTo_backlog (id k : Nat) : (s.resolveTo id k).backlog = s.backlog := rfl
@[simp] theorem State.resolveTo_stocktake (id k : Nat) : (s.resolveTo id k).stocktake = s.stocktake := rfl
@[simp] theorem State.resolveTo_deck (id k : Nat) : (s.resolveTo id k).deck = s.deck := rfl
@[simp] theorem State.resolveTo_trucks (id k : Nat) : (s.resolveTo id k).trucks = s.trucks := rfl
@[simp] theorem State.resolveTo_arrivals (id k : Nat) : (s.resolveTo id k).arrivals = s.arrivals := rfl
@[simp] theorem State.resolveTo_waiting (id k : Nat) : (s.resolveTo id k).waiting = s.waiting := rfl
@[simp] theorem State.resolveTo_returns (id k : Nat) : (s.resolveTo id k).returns = s.returns := rfl
@[simp] theorem State.resolveTo_planQueue (id k : Nat) : (s.resolveTo id k).planQueue = s.planQueue := rfl
@[simp] theorem State.resolveTo_plan (id k : Nat) : (s.resolveTo id k).plan = s.plan := rfl
@[simp] theorem State.resolveTo_lastId (id k : Nat) : (s.resolveTo id k).lastId = s.lastId := rfl
@[simp] theorem State.resolveTo_loaders (id k : Nat) : (s.resolveTo id k).loaders = s.loaders := rfl
@[simp] theorem State.resolveTo_shipLog (id k : Nat) : (s.resolveTo id k).shipLog = s.shipLog := rfl
@[simp] theorem State.resolveTo_flags (id k : Nat) : (s.resolveTo id k).flags = s.flags := rfl
@[simp] theorem State.resolveTo_pins (id k : Nat) : (s.resolveTo id k).pins = s.pins := rfl
@[simp] theorem State.resolveTo_clock (id k : Nat) : (s.resolveTo id k).clock = s.clock := rfl
@[simp] theorem State.resolveTo_wet (id k : Nat) : (s.resolveTo id k).wet = s.wet := rfl
@[simp] theorem State.resolveTo_working (id k : Nat) : (s.resolveTo id k).working = s.working := rfl
@[simp] theorem State.resolveTo_stored (id k : Nat) : (s.resolveTo id k).stored = s.stored := rfl
@[simp] theorem State.resolveTo_writeList (id k : Nat) : (s.resolveTo id k).writeList = s.writeList := rfl
@[simp] theorem State.resolveTo_writing (id k : Nat) : (s.resolveTo id k).writing = s.writing := rfl
@[simp] theorem State.resolveTo_retained (id k : Nat) : (s.resolveTo id k).retained = s.retained := rfl
@[simp] theorem State.resolveTo_marks (id k : Nat) : (s.resolveTo id k).marks = s.marks := rfl

@[simp] theorem State.setTruck_pending (slot : Nat) (t : Truck) : (s.setTruck slot t).pending = s.pending := rfl
@[simp] theorem State.setTruck_supply (slot : Nat) (t : Truck) : (s.setTruck slot t).supply = s.supply := rfl
@[simp] theorem State.setTruck_cond (slot : Nat) (t : Truck) : (s.setTruck slot t).cond = s.cond := rfl
@[simp] theorem State.setTruck_cause (slot : Nat) (t : Truck) : (s.setTruck slot t).cause = s.cause := rfl
@[simp] theorem State.setTruck_strap (slot : Nat) (t : Truck) : (s.setTruck slot t).strap = s.strap := rfl
@[simp] theorem State.setTruck_ports (slot : Nat) (t : Truck) : (s.setTruck slot t).ports = s.ports := rfl
@[simp] theorem State.setTruck_packs (slot : Nat) (t : Truck) : (s.setTruck slot t).packs = s.packs := rfl
@[simp] theorem State.setTruck_stacks (slot : Nat) (t : Truck) : (s.setTruck slot t).stackMap = s.stackMap := rfl
@[simp] theorem State.setTruck_touches (slot : Nat) (t : Truck) : (s.setTruck slot t).touches = s.touches := rfl
@[simp] theorem State.setTruck_backlog (slot : Nat) (t : Truck) : (s.setTruck slot t).backlog = s.backlog := rfl
@[simp] theorem State.setTruck_stocktake (slot : Nat) (t : Truck) : (s.setTruck slot t).stocktake = s.stocktake := rfl
@[simp] theorem State.setTruck_deck (slot : Nat) (t : Truck) : (s.setTruck slot t).deck = s.deck := rfl
@[simp] theorem State.setTruck_trucks (slot : Nat) (t : Truck) : (s.setTruck slot t).trucks = Tab.put s.trucks slot t := rfl
@[simp] theorem State.setTruck_arrivals (slot : Nat) (t : Truck) : (s.setTruck slot t).arrivals = s.arrivals := rfl
@[simp] theorem State.setTruck_waiting (slot : Nat) (t : Truck) : (s.setTruck slot t).waiting = s.waiting := rfl
@[simp] theorem State.setTruck_returns (slot : Nat) (t : Truck) : (s.setTruck slot t).returns = s.returns := rfl
@[simp] theorem State.setTruck_planQueue (slot : Nat) (t : Truck) : (s.setTruck slot t).planQueue = s.planQueue := rfl
@[simp] theorem State.setTruck_plan (slot : Nat) (t : Truck) : (s.setTruck slot t).plan = s.plan := rfl
@[simp] theorem State.setTruck_tasks (slot : Nat) (t : Truck) : (s.setTruck slot t).tasks = s.tasks := rfl
@[simp] theorem State.setTruck_lastId (slot : Nat) (t : Truck) : (s.setTruck slot t).lastId = s.lastId := rfl
@[simp] theorem State.setTruck_loaders (slot : Nat) (t : Truck) : (s.setTruck slot t).loaders = s.loaders := rfl
@[simp] theorem State.setTruck_shipLog (slot : Nat) (t : Truck) : (s.setTruck slot t).shipLog = s.shipLog := rfl
@[simp] theorem State.setTruck_flags (slot : Nat) (t : Truck) : (s.setTruck slot t).flags = s.flags := rfl
@[simp] theorem State.setTruck_pins (slot : Nat) (t : Truck) : (s.setTruck slot t).pins = s.pins := rfl
@[simp] theorem State.setTruck_clock (slot : Nat) (t : Truck) : (s.setTruck slot t).clock = s.clock := rfl
@[simp] theorem State.setTruck_wet (slot : Nat) (t : Truck) : (s.setTruck slot t).wet = s.wet := rfl
@[simp] theorem State.setTruck_working (slot : Nat) (t : Truck) : (s.setTruck slot t).working = s.working := rfl
@[simp] theorem State.setTruck_stored (slot : Nat) (t : Truck) : (s.setTruck slot t).stored = s.stored := rfl
@[simp] theorem State.setTruck_writeList (slot : Nat) (t : Truck) : (s.setTruck slot t).writeList = s.writeList := rfl
@[simp] theorem State.setTruck_writing (slot : Nat) (t : Truck) : (s.setTruck slot t).writing = s.writing := rfl
@[simp] theorem State.setTruck_retained (slot : Nat) (t : Truck) : (s.setTruck slot t).retained = s.retained := rfl
@[simp] theorem State.setTruck_marks (slot : Nat) (t : Truck) : (s.setTruck slot t).marks = s.marks := rfl

@[simp] theorem State.updateTruck_pending (slot : Nat) (f : Truck → Truck) : (s.updateTruck slot f).pending = s.pending := rfl
@[simp] theorem State.updateTruck_supply (slot : Nat) (f : Truck → Truck) : (s.updateTruck slot f).supply = s.supply := rfl
@[simp] theorem State.updateTruck_cond (slot : Nat) (f : Truck → Truck) : (s.updateTruck slot f).cond = s.cond := rfl
@[simp] theorem State.updateTruck_cause (slot : Nat) (f : Truck → Truck) : (s.updateTruck slot f).cause = s.cause := rfl
@[simp] theorem State.updateTruck_strap (slot : Nat) (f : Truck → Truck) : (s.updateTruck slot f).strap = s.strap := rfl
@[simp] theorem State.updateTruck_ports (slot : Nat) (f : Truck → Truck) : (s.updateTruck slot f).ports = s.ports := rfl
@[simp] theorem State.updateTruck_packs (slot : Nat) (f : Truck → Truck) : (s.updateTruck slot f).packs = s.packs := rfl
@[simp] theorem State.updateTruck_stacks (slot : Nat) (f : Truck → Truck) : (s.updateTruck slot f).stackMap = s.stackMap := rfl
@[simp] theorem State.updateTruck_touches (slot : Nat) (f : Truck → Truck) : (s.updateTruck slot f).touches = s.touches := rfl
@[simp] theorem State.updateTruck_backlog (slot : Nat) (f : Truck → Truck) : (s.updateTruck slot f).backlog = s.backlog := rfl
@[simp] theorem State.updateTruck_stocktake (slot : Nat) (f : Truck → Truck) : (s.updateTruck slot f).stocktake = s.stocktake := rfl
@[simp] theorem State.updateTruck_deck (slot : Nat) (f : Truck → Truck) : (s.updateTruck slot f).deck = s.deck := rfl
@[simp] theorem State.updateTruck_trucks (slot : Nat) (f : Truck → Truck) : (s.updateTruck slot f).trucks = Tab.modify s.trucks slot f := rfl
@[simp] theorem State.updateTruck_arrivals (slot : Nat) (f : Truck → Truck) : (s.updateTruck slot f).arrivals = s.arrivals := rfl
@[simp] theorem State.updateTruck_waiting (slot : Nat) (f : Truck → Truck) : (s.updateTruck slot f).waiting = s.waiting := rfl
@[simp] theorem State.updateTruck_returns (slot : Nat) (f : Truck → Truck) : (s.updateTruck slot f).returns = s.returns := rfl
@[simp] theorem State.updateTruck_planQueue (slot : Nat) (f : Truck → Truck) : (s.updateTruck slot f).planQueue = s.planQueue := rfl
@[simp] theorem State.updateTruck_plan (slot : Nat) (f : Truck → Truck) : (s.updateTruck slot f).plan = s.plan := rfl
@[simp] theorem State.updateTruck_tasks (slot : Nat) (f : Truck → Truck) : (s.updateTruck slot f).tasks = s.tasks := rfl
@[simp] theorem State.updateTruck_lastId (slot : Nat) (f : Truck → Truck) : (s.updateTruck slot f).lastId = s.lastId := rfl
@[simp] theorem State.updateTruck_loaders (slot : Nat) (f : Truck → Truck) : (s.updateTruck slot f).loaders = s.loaders := rfl
@[simp] theorem State.updateTruck_shipLog (slot : Nat) (f : Truck → Truck) : (s.updateTruck slot f).shipLog = s.shipLog := rfl
@[simp] theorem State.updateTruck_flags (slot : Nat) (f : Truck → Truck) : (s.updateTruck slot f).flags = s.flags := rfl
@[simp] theorem State.updateTruck_pins (slot : Nat) (f : Truck → Truck) : (s.updateTruck slot f).pins = s.pins := rfl
@[simp] theorem State.updateTruck_clock (slot : Nat) (f : Truck → Truck) : (s.updateTruck slot f).clock = s.clock := rfl
@[simp] theorem State.updateTruck_wet (slot : Nat) (f : Truck → Truck) : (s.updateTruck slot f).wet = s.wet := rfl
@[simp] theorem State.updateTruck_working (slot : Nat) (f : Truck → Truck) : (s.updateTruck slot f).working = s.working := rfl
@[simp] theorem State.updateTruck_stored (slot : Nat) (f : Truck → Truck) : (s.updateTruck slot f).stored = s.stored := rfl
@[simp] theorem State.updateTruck_writeList (slot : Nat) (f : Truck → Truck) : (s.updateTruck slot f).writeList = s.writeList := rfl
@[simp] theorem State.updateTruck_writing (slot : Nat) (f : Truck → Truck) : (s.updateTruck slot f).writing = s.writing := rfl
@[simp] theorem State.updateTruck_retained (slot : Nat) (f : Truck → Truck) : (s.updateTruck slot f).retained = s.retained := rfl
@[simp] theorem State.updateTruck_marks (slot : Nat) (f : Truck → Truck) : (s.updateTruck slot f).marks = s.marks := rfl

@[simp] theorem State.setLoader_pending (n : Nat) (r : Loader) : (s.setLoader n r).pending = s.pending := rfl
@[simp] theorem State.setLoader_supply (n : Nat) (r : Loader) : (s.setLoader n r).supply = s.supply := rfl
@[simp] theorem State.setLoader_cond (n : Nat) (r : Loader) : (s.setLoader n r).cond = s.cond := rfl
@[simp] theorem State.setLoader_cause (n : Nat) (r : Loader) : (s.setLoader n r).cause = s.cause := rfl
@[simp] theorem State.setLoader_strap (n : Nat) (r : Loader) : (s.setLoader n r).strap = s.strap := rfl
@[simp] theorem State.setLoader_ports (n : Nat) (r : Loader) : (s.setLoader n r).ports = s.ports := rfl
@[simp] theorem State.setLoader_packs (n : Nat) (r : Loader) : (s.setLoader n r).packs = s.packs := rfl
@[simp] theorem State.setLoader_stacks (n : Nat) (r : Loader) : (s.setLoader n r).stackMap = s.stackMap := rfl
@[simp] theorem State.setLoader_touches (n : Nat) (r : Loader) : (s.setLoader n r).touches = s.touches := rfl
@[simp] theorem State.setLoader_backlog (n : Nat) (r : Loader) : (s.setLoader n r).backlog = s.backlog := rfl
@[simp] theorem State.setLoader_stocktake (n : Nat) (r : Loader) : (s.setLoader n r).stocktake = s.stocktake := rfl
@[simp] theorem State.setLoader_deck (n : Nat) (r : Loader) : (s.setLoader n r).deck = s.deck := rfl
@[simp] theorem State.setLoader_trucks (n : Nat) (r : Loader) : (s.setLoader n r).trucks = s.trucks := rfl
@[simp] theorem State.setLoader_arrivals (n : Nat) (r : Loader) : (s.setLoader n r).arrivals = s.arrivals := rfl
@[simp] theorem State.setLoader_waiting (n : Nat) (r : Loader) : (s.setLoader n r).waiting = s.waiting := rfl
@[simp] theorem State.setLoader_returns (n : Nat) (r : Loader) : (s.setLoader n r).returns = s.returns := rfl
@[simp] theorem State.setLoader_planQueue (n : Nat) (r : Loader) : (s.setLoader n r).planQueue = s.planQueue := rfl
@[simp] theorem State.setLoader_plan (n : Nat) (r : Loader) : (s.setLoader n r).plan = s.plan := rfl
@[simp] theorem State.setLoader_tasks (n : Nat) (r : Loader) : (s.setLoader n r).tasks = s.tasks := rfl
@[simp] theorem State.setLoader_lastId (n : Nat) (r : Loader) : (s.setLoader n r).lastId = s.lastId := rfl
@[simp] theorem State.setLoader_loaders (n : Nat) (r : Loader) : (s.setLoader n r).loaders = Tab.putD Loader.initial s.loaders n r := rfl
@[simp] theorem State.setLoader_shipLog (n : Nat) (r : Loader) : (s.setLoader n r).shipLog = s.shipLog := rfl
@[simp] theorem State.setLoader_flags (n : Nat) (r : Loader) : (s.setLoader n r).flags = s.flags := rfl
@[simp] theorem State.setLoader_pins (n : Nat) (r : Loader) : (s.setLoader n r).pins = s.pins := rfl
@[simp] theorem State.setLoader_clock (n : Nat) (r : Loader) : (s.setLoader n r).clock = s.clock := rfl
@[simp] theorem State.setLoader_wet (n : Nat) (r : Loader) : (s.setLoader n r).wet = s.wet := rfl
@[simp] theorem State.setLoader_working (n : Nat) (r : Loader) : (s.setLoader n r).working = s.working := rfl
@[simp] theorem State.setLoader_stored (n : Nat) (r : Loader) : (s.setLoader n r).stored = s.stored := rfl
@[simp] theorem State.setLoader_writeList (n : Nat) (r : Loader) : (s.setLoader n r).writeList = s.writeList := rfl
@[simp] theorem State.setLoader_writing (n : Nat) (r : Loader) : (s.setLoader n r).writing = s.writing := rfl
@[simp] theorem State.setLoader_retained (n : Nat) (r : Loader) : (s.setLoader n r).retained = s.retained := rfl
@[simp] theorem State.setLoader_marks (n : Nat) (r : Loader) : (s.setLoader n r).marks = s.marks := rfl

@[simp] theorem State.releaseLoader_pending (n id : Nat) (o : PrevOutcome) : (s.releaseLoader n id o).pending = s.pending := rfl
@[simp] theorem State.releaseLoader_supply (n id : Nat) (o : PrevOutcome) : (s.releaseLoader n id o).supply = s.supply := rfl
@[simp] theorem State.releaseLoader_cond (n id : Nat) (o : PrevOutcome) : (s.releaseLoader n id o).cond = s.cond := rfl
@[simp] theorem State.releaseLoader_cause (n id : Nat) (o : PrevOutcome) : (s.releaseLoader n id o).cause = s.cause := rfl
@[simp] theorem State.releaseLoader_strap (n id : Nat) (o : PrevOutcome) : (s.releaseLoader n id o).strap = s.strap := rfl
@[simp] theorem State.releaseLoader_ports (n id : Nat) (o : PrevOutcome) : (s.releaseLoader n id o).ports = s.ports := rfl
@[simp] theorem State.releaseLoader_packs (n id : Nat) (o : PrevOutcome) : (s.releaseLoader n id o).packs = s.packs := rfl
@[simp] theorem State.releaseLoader_stacks (n id : Nat) (o : PrevOutcome) : (s.releaseLoader n id o).stackMap = s.stackMap := rfl
@[simp] theorem State.releaseLoader_touches (n id : Nat) (o : PrevOutcome) : (s.releaseLoader n id o).touches = s.touches := rfl
@[simp] theorem State.releaseLoader_backlog (n id : Nat) (o : PrevOutcome) : (s.releaseLoader n id o).backlog = s.backlog := rfl
@[simp] theorem State.releaseLoader_stocktake (n id : Nat) (o : PrevOutcome) : (s.releaseLoader n id o).stocktake = s.stocktake := rfl
@[simp] theorem State.releaseLoader_deck (n id : Nat) (o : PrevOutcome) : (s.releaseLoader n id o).deck = s.deck := rfl
@[simp] theorem State.releaseLoader_trucks (n id : Nat) (o : PrevOutcome) : (s.releaseLoader n id o).trucks = s.trucks := rfl
@[simp] theorem State.releaseLoader_arrivals (n id : Nat) (o : PrevOutcome) : (s.releaseLoader n id o).arrivals = s.arrivals := rfl
@[simp] theorem State.releaseLoader_waiting (n id : Nat) (o : PrevOutcome) : (s.releaseLoader n id o).waiting = s.waiting := rfl
@[simp] theorem State.releaseLoader_returns (n id : Nat) (o : PrevOutcome) : (s.releaseLoader n id o).returns = s.returns := rfl
@[simp] theorem State.releaseLoader_planQueue (n id : Nat) (o : PrevOutcome) : (s.releaseLoader n id o).planQueue = s.planQueue := rfl
@[simp] theorem State.releaseLoader_plan (n id : Nat) (o : PrevOutcome) : (s.releaseLoader n id o).plan = s.plan := rfl
@[simp] theorem State.releaseLoader_tasks (n id : Nat) (o : PrevOutcome) : (s.releaseLoader n id o).tasks = s.tasks := rfl
@[simp] theorem State.releaseLoader_lastId (n id : Nat) (o : PrevOutcome) : (s.releaseLoader n id o).lastId = s.lastId := rfl
@[simp] theorem State.releaseLoader_shipLog (n id : Nat) (o : PrevOutcome) : (s.releaseLoader n id o).shipLog = s.shipLog := rfl
@[simp] theorem State.releaseLoader_flags (n id : Nat) (o : PrevOutcome) : (s.releaseLoader n id o).flags = s.flags := rfl
@[simp] theorem State.releaseLoader_pins (n id : Nat) (o : PrevOutcome) : (s.releaseLoader n id o).pins = s.pins := rfl
@[simp] theorem State.releaseLoader_clock (n id : Nat) (o : PrevOutcome) : (s.releaseLoader n id o).clock = s.clock := rfl
@[simp] theorem State.releaseLoader_wet (n id : Nat) (o : PrevOutcome) : (s.releaseLoader n id o).wet = s.wet := rfl
@[simp] theorem State.releaseLoader_working (n id : Nat) (o : PrevOutcome) : (s.releaseLoader n id o).working = s.working := rfl
@[simp] theorem State.releaseLoader_stored (n id : Nat) (o : PrevOutcome) : (s.releaseLoader n id o).stored = s.stored := rfl
@[simp] theorem State.releaseLoader_writeList (n id : Nat) (o : PrevOutcome) : (s.releaseLoader n id o).writeList = s.writeList := rfl
@[simp] theorem State.releaseLoader_writing (n id : Nat) (o : PrevOutcome) : (s.releaseLoader n id o).writing = s.writing := rfl
@[simp] theorem State.releaseLoader_retained (n id : Nat) (o : PrevOutcome) : (s.releaseLoader n id o).retained = s.retained := rfl
@[simp] theorem State.releaseLoader_marks (n id : Nat) (o : PrevOutcome) : (s.releaseLoader n id o).marks = s.marks := rfl

@[simp] theorem State.revoke_pending (t : Task) : (s.revoke t).pending = s.pending := rfl
@[simp] theorem State.revoke_supply (t : Task) : (s.revoke t).supply = s.supply := rfl
@[simp] theorem State.revoke_cond (t : Task) : (s.revoke t).cond = s.cond := rfl
@[simp] theorem State.revoke_cause (t : Task) : (s.revoke t).cause = s.cause := rfl
@[simp] theorem State.revoke_strap (t : Task) : (s.revoke t).strap = s.strap := rfl
@[simp] theorem State.revoke_ports (t : Task) : (s.revoke t).ports = s.ports := rfl
@[simp] theorem State.revoke_packs (t : Task) : (s.revoke t).packs = s.packs := rfl
@[simp] theorem State.revoke_stacks (t : Task) : (s.revoke t).stackMap = s.stackMap := rfl
@[simp] theorem State.revoke_touches (t : Task) : (s.revoke t).touches = s.touches := rfl
@[simp] theorem State.revoke_backlog (t : Task) : (s.revoke t).backlog = s.backlog := rfl
@[simp] theorem State.revoke_stocktake (t : Task) : (s.revoke t).stocktake = s.stocktake := rfl
@[simp] theorem State.revoke_deck (t : Task) : (s.revoke t).deck = s.deck := rfl
@[simp] theorem State.revoke_trucks (t : Task) : (s.revoke t).trucks = s.trucks := rfl
@[simp] theorem State.revoke_arrivals (t : Task) : (s.revoke t).arrivals = s.arrivals := rfl
@[simp] theorem State.revoke_waiting (t : Task) : (s.revoke t).waiting = s.waiting := rfl
@[simp] theorem State.revoke_returns (t : Task) : (s.revoke t).returns = s.returns := rfl
@[simp] theorem State.revoke_planQueue (t : Task) : (s.revoke t).planQueue = s.planQueue := rfl
@[simp] theorem State.revoke_plan (t : Task) : (s.revoke t).plan = s.plan := rfl
@[simp] theorem State.revoke_lastId (t : Task) : (s.revoke t).lastId = s.lastId := rfl
@[simp] theorem State.revoke_shipLog (t : Task) : (s.revoke t).shipLog = s.shipLog := rfl
@[simp] theorem State.revoke_flags (t : Task) : (s.revoke t).flags = s.flags := rfl
@[simp] theorem State.revoke_pins (t : Task) : (s.revoke t).pins = s.pins := rfl
@[simp] theorem State.revoke_clock (t : Task) : (s.revoke t).clock = s.clock := rfl
@[simp] theorem State.revoke_wet (t : Task) : (s.revoke t).wet = s.wet := rfl
@[simp] theorem State.revoke_working (t : Task) : (s.revoke t).working = s.working := rfl
@[simp] theorem State.revoke_stored (t : Task) : (s.revoke t).stored = s.stored := rfl
@[simp] theorem State.revoke_writeList (t : Task) : (s.revoke t).writeList = s.writeList := rfl
@[simp] theorem State.revoke_writing (t : Task) : (s.revoke t).writing = s.writing := rfl
@[simp] theorem State.revoke_retained (t : Task) : (s.revoke t).retained = s.retained := rfl
@[simp] theorem State.revoke_marks (t : Task) : (s.revoke t).marks = s.marks := rfl

@[simp] theorem State.requeue_pending (n : Nat) (t : Task) (r : TaskReq) : (s.requeue n t r).pending = s.pending := rfl
@[simp] theorem State.requeue_supply (n : Nat) (t : Task) (r : TaskReq) : (s.requeue n t r).supply = s.supply := rfl
@[simp] theorem State.requeue_cond (n : Nat) (t : Task) (r : TaskReq) : (s.requeue n t r).cond = s.cond := rfl
@[simp] theorem State.requeue_cause (n : Nat) (t : Task) (r : TaskReq) : (s.requeue n t r).cause = s.cause := rfl
@[simp] theorem State.requeue_strap (n : Nat) (t : Task) (r : TaskReq) : (s.requeue n t r).strap = s.strap := rfl
@[simp] theorem State.requeue_ports (n : Nat) (t : Task) (r : TaskReq) : (s.requeue n t r).ports = s.ports := rfl
@[simp] theorem State.requeue_packs (n : Nat) (t : Task) (r : TaskReq) : (s.requeue n t r).packs = s.packs := rfl
@[simp] theorem State.requeue_stacks (n : Nat) (t : Task) (r : TaskReq) : (s.requeue n t r).stackMap = s.stackMap := rfl
@[simp] theorem State.requeue_touches (n : Nat) (t : Task) (r : TaskReq) : (s.requeue n t r).touches = s.touches := rfl
@[simp] theorem State.requeue_backlog (n : Nat) (t : Task) (r : TaskReq) : (s.requeue n t r).backlog = s.backlog := rfl
@[simp] theorem State.requeue_stocktake (n : Nat) (t : Task) (r : TaskReq) : (s.requeue n t r).stocktake = s.stocktake := rfl
@[simp] theorem State.requeue_deck (n : Nat) (t : Task) (r : TaskReq) : (s.requeue n t r).deck = s.deck := rfl
@[simp] theorem State.requeue_trucks (n : Nat) (t : Task) (r : TaskReq) : (s.requeue n t r).trucks = s.trucks := rfl
@[simp] theorem State.requeue_arrivals (n : Nat) (t : Task) (r : TaskReq) : (s.requeue n t r).arrivals = s.arrivals := rfl
@[simp] theorem State.requeue_waiting (n : Nat) (t : Task) (r : TaskReq) : (s.requeue n t r).waiting = s.waiting := rfl
@[simp] theorem State.requeue_returns (n : Nat) (t : Task) (r : TaskReq) : (s.requeue n t r).returns = s.returns := rfl
@[simp] theorem State.requeue_planQueue (n : Nat) (t : Task) (r : TaskReq) : (s.requeue n t r).planQueue = s.planQueue := rfl
@[simp] theorem State.requeue_plan (n : Nat) (t : Task) (r : TaskReq) : (s.requeue n t r).plan = s.plan := rfl
@[simp] theorem State.requeue_lastId (n : Nat) (t : Task) (r : TaskReq) : (s.requeue n t r).lastId = s.lastId := rfl
@[simp] theorem State.requeue_shipLog (n : Nat) (t : Task) (r : TaskReq) : (s.requeue n t r).shipLog = s.shipLog := rfl
@[simp] theorem State.requeue_flags (n : Nat) (t : Task) (r : TaskReq) : (s.requeue n t r).flags = s.flags := rfl
@[simp] theorem State.requeue_pins (n : Nat) (t : Task) (r : TaskReq) : (s.requeue n t r).pins = s.pins := rfl
@[simp] theorem State.requeue_clock (n : Nat) (t : Task) (r : TaskReq) : (s.requeue n t r).clock = s.clock := rfl
@[simp] theorem State.requeue_wet (n : Nat) (t : Task) (r : TaskReq) : (s.requeue n t r).wet = s.wet := rfl
@[simp] theorem State.requeue_working (n : Nat) (t : Task) (r : TaskReq) : (s.requeue n t r).working = s.working := rfl
@[simp] theorem State.requeue_stored (n : Nat) (t : Task) (r : TaskReq) : (s.requeue n t r).stored = s.stored := rfl
@[simp] theorem State.requeue_writeList (n : Nat) (t : Task) (r : TaskReq) : (s.requeue n t r).writeList = s.writeList := rfl
@[simp] theorem State.requeue_writing (n : Nat) (t : Task) (r : TaskReq) : (s.requeue n t r).writing = s.writing := rfl
@[simp] theorem State.requeue_retained (n : Nat) (t : Task) (r : TaskReq) : (s.requeue n t r).retained = s.retained := rfl
@[simp] theorem State.requeue_marks (n : Nat) (t : Task) (r : TaskReq) : (s.requeue n t r).marks = s.marks := rfl

@[simp] theorem State.setPort_pending (p : Port) (r : PortRec) : (s.setPort p r).pending = s.pending := rfl
@[simp] theorem State.setPort_supply (p : Port) (r : PortRec) : (s.setPort p r).supply = s.supply := rfl
@[simp] theorem State.setPort_cond (p : Port) (r : PortRec) : (s.setPort p r).cond = s.cond := rfl
@[simp] theorem State.setPort_cause (p : Port) (r : PortRec) : (s.setPort p r).cause = s.cause := rfl
@[simp] theorem State.setPort_strap (p : Port) (r : PortRec) : (s.setPort p r).strap = s.strap := rfl
@[simp] theorem State.setPort_ports (p : Port) (r : PortRec) : (s.setPort p r).ports = Tab.putD PortRec.initial s.ports (portNum p) r := rfl
@[simp] theorem State.setPort_packs (p : Port) (r : PortRec) : (s.setPort p r).packs = s.packs := rfl
@[simp] theorem State.setPort_stacks (p : Port) (r : PortRec) : (s.setPort p r).stackMap = s.stackMap := rfl
@[simp] theorem State.setPort_touches (p : Port) (r : PortRec) : (s.setPort p r).touches = s.touches := rfl
@[simp] theorem State.setPort_backlog (p : Port) (r : PortRec) : (s.setPort p r).backlog = s.backlog := rfl
@[simp] theorem State.setPort_stocktake (p : Port) (r : PortRec) : (s.setPort p r).stocktake = s.stocktake := rfl
@[simp] theorem State.setPort_deck (p : Port) (r : PortRec) : (s.setPort p r).deck = s.deck := rfl
@[simp] theorem State.setPort_trucks (p : Port) (r : PortRec) : (s.setPort p r).trucks = s.trucks := rfl
@[simp] theorem State.setPort_arrivals (p : Port) (r : PortRec) : (s.setPort p r).arrivals = s.arrivals := rfl
@[simp] theorem State.setPort_waiting (p : Port) (r : PortRec) : (s.setPort p r).waiting = s.waiting := rfl
@[simp] theorem State.setPort_returns (p : Port) (r : PortRec) : (s.setPort p r).returns = s.returns := rfl
@[simp] theorem State.setPort_planQueue (p : Port) (r : PortRec) : (s.setPort p r).planQueue = s.planQueue := rfl
@[simp] theorem State.setPort_plan (p : Port) (r : PortRec) : (s.setPort p r).plan = s.plan := rfl
@[simp] theorem State.setPort_tasks (p : Port) (r : PortRec) : (s.setPort p r).tasks = s.tasks := rfl
@[simp] theorem State.setPort_lastId (p : Port) (r : PortRec) : (s.setPort p r).lastId = s.lastId := rfl
@[simp] theorem State.setPort_loaders (p : Port) (r : PortRec) : (s.setPort p r).loaders = s.loaders := rfl
@[simp] theorem State.setPort_shipLog (p : Port) (r : PortRec) : (s.setPort p r).shipLog = s.shipLog := rfl
@[simp] theorem State.setPort_flags (p : Port) (r : PortRec) : (s.setPort p r).flags = s.flags := rfl
@[simp] theorem State.setPort_pins (p : Port) (r : PortRec) : (s.setPort p r).pins = s.pins := rfl
@[simp] theorem State.setPort_clock (p : Port) (r : PortRec) : (s.setPort p r).clock = s.clock := rfl
@[simp] theorem State.setPort_wet (p : Port) (r : PortRec) : (s.setPort p r).wet = s.wet := rfl
@[simp] theorem State.setPort_working (p : Port) (r : PortRec) : (s.setPort p r).working = s.working := rfl
@[simp] theorem State.setPort_stored (p : Port) (r : PortRec) : (s.setPort p r).stored = s.stored := rfl
@[simp] theorem State.setPort_writeList (p : Port) (r : PortRec) : (s.setPort p r).writeList = s.writeList := rfl
@[simp] theorem State.setPort_writing (p : Port) (r : PortRec) : (s.setPort p r).writing = s.writing := rfl
@[simp] theorem State.setPort_retained (p : Port) (r : PortRec) : (s.setPort p r).retained = s.retained := rfl
@[simp] theorem State.setPort_marks (p : Port) (r : PortRec) : (s.setPort p r).marks = s.marks := rfl

@[simp] theorem State.putAnswer_pending (p : Port) (rx : List Byte) (c : Nat) (a : Answer) :
    (s.putAnswer p rx c a).pending = s.pending := rfl
@[simp] theorem State.putAnswer_supply (p : Port) (rx : List Byte) (c : Nat) (a : Answer) :
    (s.putAnswer p rx c a).supply = s.supply := rfl
@[simp] theorem State.putAnswer_cond (p : Port) (rx : List Byte) (c : Nat) (a : Answer) :
    (s.putAnswer p rx c a).cond = s.cond := rfl
@[simp] theorem State.putAnswer_cause (p : Port) (rx : List Byte) (c : Nat) (a : Answer) :
    (s.putAnswer p rx c a).cause = s.cause := rfl
@[simp] theorem State.putAnswer_strap (p : Port) (rx : List Byte) (c : Nat) (a : Answer) :
    (s.putAnswer p rx c a).strap = s.strap := rfl
@[simp] theorem State.putAnswer_packs (p : Port) (rx : List Byte) (c : Nat) (a : Answer) :
    (s.putAnswer p rx c a).packs = s.packs := rfl
@[simp] theorem State.putAnswer_stacks (p : Port) (rx : List Byte) (c : Nat) (a : Answer) :
    (s.putAnswer p rx c a).stackMap = s.stackMap := rfl
@[simp] theorem State.putAnswer_touches (p : Port) (rx : List Byte) (c : Nat) (a : Answer) :
    (s.putAnswer p rx c a).touches = s.touches := rfl
@[simp] theorem State.putAnswer_backlog (p : Port) (rx : List Byte) (c : Nat) (a : Answer) :
    (s.putAnswer p rx c a).backlog = s.backlog := rfl
@[simp] theorem State.putAnswer_stocktake (p : Port) (rx : List Byte) (c : Nat) (a : Answer) :
    (s.putAnswer p rx c a).stocktake = s.stocktake := rfl
@[simp] theorem State.putAnswer_deck (p : Port) (rx : List Byte) (c : Nat) (a : Answer) :
    (s.putAnswer p rx c a).deck = s.deck := rfl
@[simp] theorem State.putAnswer_trucks (p : Port) (rx : List Byte) (c : Nat) (a : Answer) :
    (s.putAnswer p rx c a).trucks = s.trucks := rfl
@[simp] theorem State.putAnswer_arrivals (p : Port) (rx : List Byte) (c : Nat) (a : Answer) :
    (s.putAnswer p rx c a).arrivals = s.arrivals := rfl
@[simp] theorem State.putAnswer_waiting (p : Port) (rx : List Byte) (c : Nat) (a : Answer) :
    (s.putAnswer p rx c a).waiting = s.waiting := rfl
@[simp] theorem State.putAnswer_returns (p : Port) (rx : List Byte) (c : Nat) (a : Answer) :
    (s.putAnswer p rx c a).returns = s.returns := rfl
@[simp] theorem State.putAnswer_planQueue (p : Port) (rx : List Byte) (c : Nat) (a : Answer) :
    (s.putAnswer p rx c a).planQueue = s.planQueue := rfl
@[simp] theorem State.putAnswer_plan (p : Port) (rx : List Byte) (c : Nat) (a : Answer) :
    (s.putAnswer p rx c a).plan = s.plan := rfl
@[simp] theorem State.putAnswer_tasks (p : Port) (rx : List Byte) (c : Nat) (a : Answer) :
    (s.putAnswer p rx c a).tasks = s.tasks := rfl
@[simp] theorem State.putAnswer_lastId (p : Port) (rx : List Byte) (c : Nat) (a : Answer) :
    (s.putAnswer p rx c a).lastId = s.lastId := rfl
@[simp] theorem State.putAnswer_loaders (p : Port) (rx : List Byte) (c : Nat) (a : Answer) :
    (s.putAnswer p rx c a).loaders = s.loaders := rfl
@[simp] theorem State.putAnswer_shipLog (p : Port) (rx : List Byte) (c : Nat) (a : Answer) :
    (s.putAnswer p rx c a).shipLog = s.shipLog := rfl
@[simp] theorem State.putAnswer_flags (p : Port) (rx : List Byte) (c : Nat) (a : Answer) :
    (s.putAnswer p rx c a).flags = s.flags := rfl
@[simp] theorem State.putAnswer_pins (p : Port) (rx : List Byte) (c : Nat) (a : Answer) :
    (s.putAnswer p rx c a).pins = s.pins := rfl
@[simp] theorem State.putAnswer_clock (p : Port) (rx : List Byte) (c : Nat) (a : Answer) :
    (s.putAnswer p rx c a).clock = s.clock := rfl
@[simp] theorem State.putAnswer_wet (p : Port) (rx : List Byte) (c : Nat) (a : Answer) :
    (s.putAnswer p rx c a).wet = s.wet := rfl
@[simp] theorem State.putAnswer_working (p : Port) (rx : List Byte) (c : Nat) (a : Answer) :
    (s.putAnswer p rx c a).working = s.working := rfl
@[simp] theorem State.putAnswer_stored (p : Port) (rx : List Byte) (c : Nat) (a : Answer) :
    (s.putAnswer p rx c a).stored = s.stored := rfl
@[simp] theorem State.putAnswer_writeList (p : Port) (rx : List Byte) (c : Nat) (a : Answer) :
    (s.putAnswer p rx c a).writeList = s.writeList := rfl
@[simp] theorem State.putAnswer_writing (p : Port) (rx : List Byte) (c : Nat) (a : Answer) :
    (s.putAnswer p rx c a).writing = s.writing := rfl
@[simp] theorem State.putAnswer_retained (p : Port) (rx : List Byte) (c : Nat) (a : Answer) :
    (s.putAnswer p rx c a).retained = s.retained := rfl
@[simp] theorem State.putAnswer_marks (p : Port) (rx : List Byte) (c : Nat) (a : Answer) :
    (s.putAnswer p rx c a).marks = s.marks := rfl

@[simp] theorem State.raise_pending (e : Event) : (s.raise e).pending = s.pending := rfl
@[simp] theorem State.raise_supply (e : Event) : (s.raise e).supply = s.supply := rfl
@[simp] theorem State.raise_cond (e : Event) : (s.raise e).cond = s.cond := rfl
@[simp] theorem State.raise_cause (e : Event) : (s.raise e).cause = s.cause := rfl
@[simp] theorem State.raise_strap (e : Event) : (s.raise e).strap = s.strap := rfl
@[simp] theorem State.raise_ports (e : Event) : (s.raise e).ports = s.ports := rfl
@[simp] theorem State.raise_packs (e : Event) : (s.raise e).packs = s.packs := rfl
@[simp] theorem State.raise_stacks (e : Event) : (s.raise e).stackMap = s.stackMap := rfl
@[simp] theorem State.raise_touches (e : Event) : (s.raise e).touches = s.touches := rfl
@[simp] theorem State.raise_backlog (e : Event) : (s.raise e).backlog = s.backlog := rfl
@[simp] theorem State.raise_stocktake (e : Event) : (s.raise e).stocktake = s.stocktake := rfl
@[simp] theorem State.raise_deck (e : Event) : (s.raise e).deck = s.deck := rfl
@[simp] theorem State.raise_trucks (e : Event) : (s.raise e).trucks = s.trucks := rfl
@[simp] theorem State.raise_arrivals (e : Event) : (s.raise e).arrivals = s.arrivals := rfl
@[simp] theorem State.raise_waiting (e : Event) : (s.raise e).waiting = s.waiting := rfl
@[simp] theorem State.raise_returns (e : Event) : (s.raise e).returns = s.returns := rfl
@[simp] theorem State.raise_planQueue (e : Event) : (s.raise e).planQueue = s.planQueue := rfl
@[simp] theorem State.raise_plan (e : Event) : (s.raise e).plan = s.plan := rfl
@[simp] theorem State.raise_tasks (e : Event) : (s.raise e).tasks = s.tasks := rfl
@[simp] theorem State.raise_lastId (e : Event) : (s.raise e).lastId = s.lastId := rfl
@[simp] theorem State.raise_loaders (e : Event) : (s.raise e).loaders = s.loaders := rfl
@[simp] theorem State.raise_shipLog (e : Event) : (s.raise e).shipLog = s.shipLog := rfl
@[simp] theorem State.raise_flags (e : Event) : (s.raise e).flags = s.flags ||| e.mask := rfl
@[simp] theorem State.raise_pins (e : Event) : (s.raise e).pins = s.pins := rfl
@[simp] theorem State.raise_clock (e : Event) : (s.raise e).clock = s.clock := rfl
@[simp] theorem State.raise_wet (e : Event) : (s.raise e).wet = s.wet := rfl
@[simp] theorem State.raise_working (e : Event) : (s.raise e).working = s.working := rfl
@[simp] theorem State.raise_stored (e : Event) : (s.raise e).stored = s.stored := rfl
@[simp] theorem State.raise_writeList (e : Event) : (s.raise e).writeList = s.writeList := rfl
@[simp] theorem State.raise_writing (e : Event) : (s.raise e).writing = s.writing := rfl
@[simp] theorem State.raise_retained (e : Event) : (s.raise e).retained = s.retained := rfl
@[simp] theorem State.raise_marks (e : Event) : (s.raise e).marks = s.marks := rfl

@[simp] theorem State.acknowledge_pending (f : FlagSet) : (s.acknowledge f).pending = s.pending := rfl
@[simp] theorem State.acknowledge_supply (f : FlagSet) : (s.acknowledge f).supply = s.supply := rfl
@[simp] theorem State.acknowledge_cond (f : FlagSet) : (s.acknowledge f).cond = s.cond := rfl
@[simp] theorem State.acknowledge_cause (f : FlagSet) : (s.acknowledge f).cause = s.cause := rfl
@[simp] theorem State.acknowledge_strap (f : FlagSet) : (s.acknowledge f).strap = s.strap := rfl
@[simp] theorem State.acknowledge_ports (f : FlagSet) : (s.acknowledge f).ports = s.ports := rfl
@[simp] theorem State.acknowledge_packs (f : FlagSet) : (s.acknowledge f).packs = s.packs := rfl
@[simp] theorem State.acknowledge_stacks (f : FlagSet) : (s.acknowledge f).stackMap = s.stackMap := rfl
@[simp] theorem State.acknowledge_touches (f : FlagSet) : (s.acknowledge f).touches = s.touches := rfl
@[simp] theorem State.acknowledge_backlog (f : FlagSet) : (s.acknowledge f).backlog = s.backlog := rfl
@[simp] theorem State.acknowledge_stocktake (f : FlagSet) : (s.acknowledge f).stocktake = s.stocktake := rfl
@[simp] theorem State.acknowledge_deck (f : FlagSet) : (s.acknowledge f).deck = s.deck := rfl
@[simp] theorem State.acknowledge_trucks (f : FlagSet) : (s.acknowledge f).trucks = s.trucks := rfl
@[simp] theorem State.acknowledge_arrivals (f : FlagSet) : (s.acknowledge f).arrivals = s.arrivals := rfl
@[simp] theorem State.acknowledge_waiting (f : FlagSet) : (s.acknowledge f).waiting = s.waiting := rfl
@[simp] theorem State.acknowledge_returns (f : FlagSet) : (s.acknowledge f).returns = s.returns := rfl
@[simp] theorem State.acknowledge_planQueue (f : FlagSet) : (s.acknowledge f).planQueue = s.planQueue := rfl
@[simp] theorem State.acknowledge_plan (f : FlagSet) : (s.acknowledge f).plan = s.plan := rfl
@[simp] theorem State.acknowledge_tasks (f : FlagSet) : (s.acknowledge f).tasks = s.tasks := rfl
@[simp] theorem State.acknowledge_lastId (f : FlagSet) : (s.acknowledge f).lastId = s.lastId := rfl
@[simp] theorem State.acknowledge_loaders (f : FlagSet) : (s.acknowledge f).loaders = s.loaders := rfl
@[simp] theorem State.acknowledge_shipLog (f : FlagSet) : (s.acknowledge f).shipLog = s.shipLog := rfl
@[simp] theorem State.acknowledge_flags (f : FlagSet) : (s.acknowledge f).flags = s.flags &&& ~~~f := rfl
@[simp] theorem State.acknowledge_pins (f : FlagSet) : (s.acknowledge f).pins = s.pins := rfl
@[simp] theorem State.acknowledge_clock (f : FlagSet) : (s.acknowledge f).clock = s.clock := rfl
@[simp] theorem State.acknowledge_wet (f : FlagSet) : (s.acknowledge f).wet = s.wet := rfl
@[simp] theorem State.acknowledge_working (f : FlagSet) : (s.acknowledge f).working = s.working := rfl
@[simp] theorem State.acknowledge_stored (f : FlagSet) : (s.acknowledge f).stored = s.stored := rfl
@[simp] theorem State.acknowledge_writeList (f : FlagSet) : (s.acknowledge f).writeList = s.writeList := rfl
@[simp] theorem State.acknowledge_writing (f : FlagSet) : (s.acknowledge f).writing = s.writing := rfl
@[simp] theorem State.acknowledge_retained (f : FlagSet) : (s.acknowledge f).retained = s.retained := rfl
@[simp] theorem State.acknowledge_marks (f : FlagSet) : (s.acknowledge f).marks = s.marks := rfl

@[simp] theorem State.judgeGate_pending : (s.judgeGate).pending = s.pending := rfl
@[simp] theorem State.judgeGate_supply : (s.judgeGate).supply = s.supply := rfl
@[simp] theorem State.judgeGate_cond : (s.judgeGate).cond = s.cond := rfl
@[simp] theorem State.judgeGate_cause : (s.judgeGate).cause = s.cause := rfl
@[simp] theorem State.judgeGate_strap : (s.judgeGate).strap = s.strap := rfl
@[simp] theorem State.judgeGate_ports : (s.judgeGate).ports = s.ports := rfl
@[simp] theorem State.judgeGate_packs : (s.judgeGate).packs = s.packs := rfl
@[simp] theorem State.judgeGate_stacks : (s.judgeGate).stackMap = s.stackMap := rfl
@[simp] theorem State.judgeGate_touches : (s.judgeGate).touches = s.touches := rfl
@[simp] theorem State.judgeGate_backlog : (s.judgeGate).backlog = s.backlog := rfl
@[simp] theorem State.judgeGate_stocktake : (s.judgeGate).stocktake = s.stocktake := rfl
@[simp] theorem State.judgeGate_deck : (s.judgeGate).deck = s.deck := rfl
@[simp] theorem State.judgeGate_trucks : (s.judgeGate).trucks = s.trucks := rfl
@[simp] theorem State.judgeGate_arrivals : (s.judgeGate).arrivals = s.arrivals := rfl
@[simp] theorem State.judgeGate_waiting : (s.judgeGate).waiting = s.waiting := rfl
@[simp] theorem State.judgeGate_returns : (s.judgeGate).returns = s.returns := rfl
@[simp] theorem State.judgeGate_planQueue : (s.judgeGate).planQueue = s.planQueue := rfl
@[simp] theorem State.judgeGate_plan : (s.judgeGate).plan = s.plan := rfl
@[simp] theorem State.judgeGate_tasks : (s.judgeGate).tasks = s.tasks := rfl
@[simp] theorem State.judgeGate_lastId : (s.judgeGate).lastId = s.lastId := rfl
@[simp] theorem State.judgeGate_loaders : (s.judgeGate).loaders = s.loaders := rfl
@[simp] theorem State.judgeGate_shipLog : (s.judgeGate).shipLog = s.shipLog := rfl
@[simp] theorem State.judgeGate_flags : (s.judgeGate).flags = s.flags := rfl
@[simp] theorem State.judgeGate_clock : (s.judgeGate).clock = s.clock := rfl
@[simp] theorem State.judgeGate_wet : (s.judgeGate).wet = s.wet := rfl
@[simp] theorem State.judgeGate_working : (s.judgeGate).working = s.working := rfl
@[simp] theorem State.judgeGate_stored : (s.judgeGate).stored = s.stored := rfl
@[simp] theorem State.judgeGate_writeList : (s.judgeGate).writeList = s.writeList := rfl
@[simp] theorem State.judgeGate_writing : (s.judgeGate).writing = s.writing := rfl
@[simp] theorem State.judgeGate_retained : (s.judgeGate).retained = s.retained := rfl
@[simp] theorem State.judgeGate_marks : (s.judgeGate).marks = s.marks := rfl

@[simp] theorem State.judgeMill_pending : (s.judgeMill).pending = s.pending := rfl
@[simp] theorem State.judgeMill_supply : (s.judgeMill).supply = s.supply := rfl
@[simp] theorem State.judgeMill_cond : (s.judgeMill).cond = s.cond := rfl
@[simp] theorem State.judgeMill_cause : (s.judgeMill).cause = s.cause := rfl
@[simp] theorem State.judgeMill_strap : (s.judgeMill).strap = s.strap := rfl
@[simp] theorem State.judgeMill_ports : (s.judgeMill).ports = s.ports := rfl
@[simp] theorem State.judgeMill_packs : (s.judgeMill).packs = s.packs := rfl
@[simp] theorem State.judgeMill_stacks : (s.judgeMill).stackMap = s.stackMap := rfl
@[simp] theorem State.judgeMill_touches : (s.judgeMill).touches = s.touches := rfl
@[simp] theorem State.judgeMill_backlog : (s.judgeMill).backlog = s.backlog := rfl
@[simp] theorem State.judgeMill_stocktake : (s.judgeMill).stocktake = s.stocktake := rfl
@[simp] theorem State.judgeMill_deck : (s.judgeMill).deck = s.deck := rfl
@[simp] theorem State.judgeMill_trucks : (s.judgeMill).trucks = s.trucks := rfl
@[simp] theorem State.judgeMill_arrivals : (s.judgeMill).arrivals = s.arrivals := rfl
@[simp] theorem State.judgeMill_waiting : (s.judgeMill).waiting = s.waiting := rfl
@[simp] theorem State.judgeMill_returns : (s.judgeMill).returns = s.returns := rfl
@[simp] theorem State.judgeMill_planQueue : (s.judgeMill).planQueue = s.planQueue := rfl
@[simp] theorem State.judgeMill_plan : (s.judgeMill).plan = s.plan := rfl
@[simp] theorem State.judgeMill_tasks : (s.judgeMill).tasks = s.tasks := rfl
@[simp] theorem State.judgeMill_lastId : (s.judgeMill).lastId = s.lastId := rfl
@[simp] theorem State.judgeMill_loaders : (s.judgeMill).loaders = s.loaders := rfl
@[simp] theorem State.judgeMill_shipLog : (s.judgeMill).shipLog = s.shipLog := rfl
@[simp] theorem State.judgeMill_flags : (s.judgeMill).flags = s.flags := rfl
@[simp] theorem State.judgeMill_clock : (s.judgeMill).clock = s.clock := rfl
@[simp] theorem State.judgeMill_wet : (s.judgeMill).wet = s.wet := rfl
@[simp] theorem State.judgeMill_working : (s.judgeMill).working = s.working := rfl
@[simp] theorem State.judgeMill_stored : (s.judgeMill).stored = s.stored := rfl
@[simp] theorem State.judgeMill_writeList : (s.judgeMill).writeList = s.writeList := rfl
@[simp] theorem State.judgeMill_writing : (s.judgeMill).writing = s.writing := rfl
@[simp] theorem State.judgeMill_retained : (s.judgeMill).retained = s.retained := rfl
@[simp] theorem State.judgeMill_marks : (s.judgeMill).marks = s.marks := rfl

@[simp] theorem State.judgeLines_pending : (s.judgeLines).pending = s.pending := rfl
@[simp] theorem State.judgeLines_supply : (s.judgeLines).supply = s.supply := rfl
@[simp] theorem State.judgeLines_cond : (s.judgeLines).cond = s.cond := rfl
@[simp] theorem State.judgeLines_cause : (s.judgeLines).cause = s.cause := rfl
@[simp] theorem State.judgeLines_strap : (s.judgeLines).strap = s.strap := rfl
@[simp] theorem State.judgeLines_ports : (s.judgeLines).ports = s.ports := rfl
@[simp] theorem State.judgeLines_packs : (s.judgeLines).packs = s.packs := rfl
@[simp] theorem State.judgeLines_stacks : (s.judgeLines).stackMap = s.stackMap := rfl
@[simp] theorem State.judgeLines_touches : (s.judgeLines).touches = s.touches := rfl
@[simp] theorem State.judgeLines_backlog : (s.judgeLines).backlog = s.backlog := rfl
@[simp] theorem State.judgeLines_stocktake : (s.judgeLines).stocktake = s.stocktake := rfl
@[simp] theorem State.judgeLines_deck : (s.judgeLines).deck = s.deck := rfl
@[simp] theorem State.judgeLines_trucks : (s.judgeLines).trucks = s.trucks := rfl
@[simp] theorem State.judgeLines_arrivals : (s.judgeLines).arrivals = s.arrivals := rfl
@[simp] theorem State.judgeLines_waiting : (s.judgeLines).waiting = s.waiting := rfl
@[simp] theorem State.judgeLines_returns : (s.judgeLines).returns = s.returns := rfl
@[simp] theorem State.judgeLines_planQueue : (s.judgeLines).planQueue = s.planQueue := rfl
@[simp] theorem State.judgeLines_plan : (s.judgeLines).plan = s.plan := rfl
@[simp] theorem State.judgeLines_tasks : (s.judgeLines).tasks = s.tasks := rfl
@[simp] theorem State.judgeLines_lastId : (s.judgeLines).lastId = s.lastId := rfl
@[simp] theorem State.judgeLines_loaders : (s.judgeLines).loaders = s.loaders := rfl
@[simp] theorem State.judgeLines_shipLog : (s.judgeLines).shipLog = s.shipLog := rfl
@[simp] theorem State.judgeLines_flags : (s.judgeLines).flags = s.flags := rfl
@[simp] theorem State.judgeLines_clock : (s.judgeLines).clock = s.clock := rfl
@[simp] theorem State.judgeLines_wet : (s.judgeLines).wet = s.wet := rfl
@[simp] theorem State.judgeLines_working : (s.judgeLines).working = s.working := rfl
@[simp] theorem State.judgeLines_stored : (s.judgeLines).stored = s.stored := rfl
@[simp] theorem State.judgeLines_writeList : (s.judgeLines).writeList = s.writeList := rfl
@[simp] theorem State.judgeLines_writing : (s.judgeLines).writing = s.writing := rfl
@[simp] theorem State.judgeLines_retained : (s.judgeLines).retained = s.retained := rfl
@[simp] theorem State.judgeLines_marks : (s.judgeLines).marks = s.marks := rfl

@[simp] theorem State.offDeck_pending (i : Nat) : (s.offDeck i).pending = s.pending := rfl
@[simp] theorem State.offDeck_supply (i : Nat) : (s.offDeck i).supply = s.supply := rfl
@[simp] theorem State.offDeck_cond (i : Nat) : (s.offDeck i).cond = s.cond := rfl
@[simp] theorem State.offDeck_cause (i : Nat) : (s.offDeck i).cause = s.cause := rfl
@[simp] theorem State.offDeck_strap (i : Nat) : (s.offDeck i).strap = s.strap := rfl
@[simp] theorem State.offDeck_ports (i : Nat) : (s.offDeck i).ports = s.ports := rfl
@[simp] theorem State.offDeck_packs (i : Nat) : (s.offDeck i).packs = s.packs := rfl
@[simp] theorem State.offDeck_stacks (i : Nat) : (s.offDeck i).stackMap = s.stackMap := rfl
@[simp] theorem State.offDeck_touches (i : Nat) : (s.offDeck i).touches = s.touches := rfl
@[simp] theorem State.offDeck_backlog (i : Nat) : (s.offDeck i).backlog = s.backlog := rfl
@[simp] theorem State.offDeck_stocktake (i : Nat) : (s.offDeck i).stocktake = s.stocktake := rfl
@[simp] theorem State.offDeck_deck (i : Nat) : (s.offDeck i).deck = takeOut i s.deck := rfl
@[simp] theorem State.offDeck_trucks (i : Nat) : (s.offDeck i).trucks = s.trucks := rfl
@[simp] theorem State.offDeck_arrivals (i : Nat) : (s.offDeck i).arrivals = s.arrivals := rfl
@[simp] theorem State.offDeck_waiting (i : Nat) : (s.offDeck i).waiting = s.waiting := rfl
@[simp] theorem State.offDeck_returns (i : Nat) : (s.offDeck i).returns = s.returns := rfl
@[simp] theorem State.offDeck_planQueue (i : Nat) : (s.offDeck i).planQueue = s.planQueue := rfl
@[simp] theorem State.offDeck_plan (i : Nat) : (s.offDeck i).plan = s.plan := rfl
@[simp] theorem State.offDeck_tasks (i : Nat) : (s.offDeck i).tasks = s.tasks := rfl
@[simp] theorem State.offDeck_lastId (i : Nat) : (s.offDeck i).lastId = s.lastId := rfl
@[simp] theorem State.offDeck_loaders (i : Nat) : (s.offDeck i).loaders = s.loaders := rfl
@[simp] theorem State.offDeck_shipLog (i : Nat) : (s.offDeck i).shipLog = s.shipLog := rfl
@[simp] theorem State.offDeck_flags (i : Nat) : (s.offDeck i).flags = s.flags := rfl
@[simp] theorem State.offDeck_clock (i : Nat) : (s.offDeck i).clock = s.clock := rfl
@[simp] theorem State.offDeck_wet (i : Nat) : (s.offDeck i).wet = s.wet := rfl
@[simp] theorem State.offDeck_working (i : Nat) : (s.offDeck i).working = s.working := rfl
@[simp] theorem State.offDeck_stored (i : Nat) : (s.offDeck i).stored = s.stored := rfl
@[simp] theorem State.offDeck_writeList (i : Nat) : (s.offDeck i).writeList = s.writeList := rfl
@[simp] theorem State.offDeck_writing (i : Nat) : (s.offDeck i).writing = s.writing := rfl
@[simp] theorem State.offDeck_retained (i : Nat) : (s.offDeck i).retained = s.retained := rfl
@[simp] theorem State.offDeck_marks (i : Nat) : (s.offDeck i).marks = s.marks := rfl

@[simp] theorem State.addTask_pending (k : TaskKind) (p : Option Nat) (src : Source) (d : Dest) (tr : Option Nat) (z : Nat) (r : Option Reason) : (s.addTask k p src d tr z r).pending = s.pending := rfl
@[simp] theorem State.addTask_supply (k : TaskKind) (p : Option Nat) (src : Source) (d : Dest) (tr : Option Nat) (z : Nat) (r : Option Reason) : (s.addTask k p src d tr z r).supply = s.supply := rfl
@[simp] theorem State.addTask_cond (k : TaskKind) (p : Option Nat) (src : Source) (d : Dest) (tr : Option Nat) (z : Nat) (r : Option Reason) : (s.addTask k p src d tr z r).cond = s.cond := rfl
@[simp] theorem State.addTask_cause (k : TaskKind) (p : Option Nat) (src : Source) (d : Dest) (tr : Option Nat) (z : Nat) (r : Option Reason) : (s.addTask k p src d tr z r).cause = s.cause := rfl
@[simp] theorem State.addTask_strap (k : TaskKind) (p : Option Nat) (src : Source) (d : Dest) (tr : Option Nat) (z : Nat) (r : Option Reason) : (s.addTask k p src d tr z r).strap = s.strap := rfl
@[simp] theorem State.addTask_ports (k : TaskKind) (p : Option Nat) (src : Source) (d : Dest) (tr : Option Nat) (z : Nat) (r : Option Reason) : (s.addTask k p src d tr z r).ports = s.ports := rfl
@[simp] theorem State.addTask_packs (k : TaskKind) (p : Option Nat) (src : Source) (d : Dest) (tr : Option Nat) (z : Nat) (r : Option Reason) : (s.addTask k p src d tr z r).packs = s.packs := rfl
@[simp] theorem State.addTask_stacks (k : TaskKind) (p : Option Nat) (src : Source) (d : Dest) (tr : Option Nat) (z : Nat) (r : Option Reason) : (s.addTask k p src d tr z r).stackMap = s.stackMap := rfl
@[simp] theorem State.addTask_touches (k : TaskKind) (p : Option Nat) (src : Source) (d : Dest) (tr : Option Nat) (z : Nat) (r : Option Reason) : (s.addTask k p src d tr z r).touches = s.touches ++ (src.places ++ d.places).map (fun p => ⟨p, s.newId⟩) := rfl
@[simp] theorem State.addTask_backlog (k : TaskKind) (p : Option Nat) (src : Source) (d : Dest) (tr : Option Nat) (z : Nat) (r : Option Reason) : (s.addTask k p src d tr z r).backlog = s.backlog := rfl
@[simp] theorem State.addTask_stocktake (k : TaskKind) (p : Option Nat) (src : Source) (d : Dest) (tr : Option Nat) (z : Nat) (r : Option Reason) : (s.addTask k p src d tr z r).stocktake = s.stocktake := rfl
@[simp] theorem State.addTask_deck (k : TaskKind) (p : Option Nat) (src : Source) (d : Dest) (tr : Option Nat) (z : Nat) (r : Option Reason) : (s.addTask k p src d tr z r).deck = s.deck := rfl
@[simp] theorem State.addTask_trucks (k : TaskKind) (p : Option Nat) (src : Source) (d : Dest) (tr : Option Nat) (z : Nat) (r : Option Reason) : (s.addTask k p src d tr z r).trucks = s.trucks := rfl
@[simp] theorem State.addTask_arrivals (k : TaskKind) (p : Option Nat) (src : Source) (d : Dest) (tr : Option Nat) (z : Nat) (r : Option Reason) : (s.addTask k p src d tr z r).arrivals = s.arrivals := rfl
@[simp] theorem State.addTask_waiting (k : TaskKind) (p : Option Nat) (src : Source) (d : Dest) (tr : Option Nat) (z : Nat) (r : Option Reason) : (s.addTask k p src d tr z r).waiting = s.waiting := rfl
@[simp] theorem State.addTask_returns (k : TaskKind) (p : Option Nat) (src : Source) (d : Dest) (tr : Option Nat) (z : Nat) (r : Option Reason) : (s.addTask k p src d tr z r).returns = s.returns := rfl
@[simp] theorem State.addTask_planQueue (k : TaskKind) (p : Option Nat) (src : Source) (d : Dest) (tr : Option Nat) (z : Nat) (r : Option Reason) : (s.addTask k p src d tr z r).planQueue = s.planQueue := rfl
@[simp] theorem State.addTask_plan (k : TaskKind) (p : Option Nat) (src : Source) (d : Dest) (tr : Option Nat) (z : Nat) (r : Option Reason) : (s.addTask k p src d tr z r).plan = s.plan := rfl
@[simp] theorem State.addTask_lastId (k : TaskKind) (p : Option Nat) (src : Source) (d : Dest) (tr : Option Nat) (z : Nat) (r : Option Reason) : (s.addTask k p src d tr z r).lastId = s.newId := rfl
@[simp] theorem State.addTask_loaders (k : TaskKind) (p : Option Nat) (src : Source) (d : Dest) (tr : Option Nat) (z : Nat) (r : Option Reason) : (s.addTask k p src d tr z r).loaders = s.loaders := rfl
@[simp] theorem State.addTask_shipLog (k : TaskKind) (p : Option Nat) (src : Source) (d : Dest) (tr : Option Nat) (z : Nat) (r : Option Reason) : (s.addTask k p src d tr z r).shipLog = s.shipLog := rfl
@[simp] theorem State.addTask_flags (k : TaskKind) (p : Option Nat) (src : Source) (d : Dest) (tr : Option Nat) (z : Nat) (r : Option Reason) : (s.addTask k p src d tr z r).flags = s.flags := rfl
@[simp] theorem State.addTask_pins (k : TaskKind) (p : Option Nat) (src : Source) (d : Dest) (tr : Option Nat) (z : Nat) (r : Option Reason) : (s.addTask k p src d tr z r).pins = s.pins := rfl
@[simp] theorem State.addTask_clock (k : TaskKind) (p : Option Nat) (src : Source) (d : Dest) (tr : Option Nat) (z : Nat) (r : Option Reason) : (s.addTask k p src d tr z r).clock = s.clock := rfl
@[simp] theorem State.addTask_wet (k : TaskKind) (p : Option Nat) (src : Source) (d : Dest) (tr : Option Nat) (z : Nat) (r : Option Reason) : (s.addTask k p src d tr z r).wet = s.wet := rfl
@[simp] theorem State.addTask_working (k : TaskKind) (p : Option Nat) (src : Source) (d : Dest) (tr : Option Nat) (z : Nat) (r : Option Reason) : (s.addTask k p src d tr z r).working = s.working := rfl
@[simp] theorem State.addTask_stored (k : TaskKind) (p : Option Nat) (src : Source) (d : Dest) (tr : Option Nat) (z : Nat) (r : Option Reason) : (s.addTask k p src d tr z r).stored = s.stored := rfl
@[simp] theorem State.addTask_writeList (k : TaskKind) (p : Option Nat) (src : Source) (d : Dest) (tr : Option Nat) (z : Nat) (r : Option Reason) : (s.addTask k p src d tr z r).writeList = s.writeList := rfl
@[simp] theorem State.addTask_writing (k : TaskKind) (p : Option Nat) (src : Source) (d : Dest) (tr : Option Nat) (z : Nat) (r : Option Reason) : (s.addTask k p src d tr z r).writing = s.writing := rfl
@[simp] theorem State.addTask_retained (k : TaskKind) (p : Option Nat) (src : Source) (d : Dest) (tr : Option Nat) (z : Nat) (r : Option Reason) : (s.addTask k p src d tr z r).retained = s.retained := rfl
@[simp] theorem State.addTask_marks (k : TaskKind) (p : Option Nat) (src : Source) (d : Dest) (tr : Option Nat) (z : Nat) (r : Option Reason) : (s.addTask k p src d tr z r).marks = s.marks := rfl

@[simp] theorem State.leaveBacklog_pending (id : Nat) : (s.leaveBacklog id).pending = s.pending := rfl
@[simp] theorem State.leaveBacklog_supply (id : Nat) : (s.leaveBacklog id).supply = s.supply := rfl
@[simp] theorem State.leaveBacklog_cond (id : Nat) : (s.leaveBacklog id).cond = s.cond := rfl
@[simp] theorem State.leaveBacklog_cause (id : Nat) : (s.leaveBacklog id).cause = s.cause := rfl
@[simp] theorem State.leaveBacklog_strap (id : Nat) : (s.leaveBacklog id).strap = s.strap := rfl
@[simp] theorem State.leaveBacklog_ports (id : Nat) : (s.leaveBacklog id).ports = s.ports := rfl
@[simp] theorem State.leaveBacklog_packs (id : Nat) : (s.leaveBacklog id).packs = s.packs := rfl
@[simp] theorem State.leaveBacklog_stacks (id : Nat) : (s.leaveBacklog id).stackMap = s.stackMap := rfl
@[simp] theorem State.leaveBacklog_touches (id : Nat) : (s.leaveBacklog id).touches = s.touches := rfl
@[simp] theorem State.leaveBacklog_backlog (id : Nat) : (s.leaveBacklog id).backlog = Tab.erase s.backlog id := rfl
@[simp] theorem State.leaveBacklog_stocktake (id : Nat) : (s.leaveBacklog id).stocktake = s.stocktake := rfl
@[simp] theorem State.leaveBacklog_deck (id : Nat) : (s.leaveBacklog id).deck = s.deck := rfl
@[simp] theorem State.leaveBacklog_trucks (id : Nat) : (s.leaveBacklog id).trucks = s.trucks := rfl
@[simp] theorem State.leaveBacklog_arrivals (id : Nat) : (s.leaveBacklog id).arrivals = s.arrivals := rfl
@[simp] theorem State.leaveBacklog_waiting (id : Nat) : (s.leaveBacklog id).waiting = s.waiting := rfl
@[simp] theorem State.leaveBacklog_returns (id : Nat) : (s.leaveBacklog id).returns = s.returns := rfl
@[simp] theorem State.leaveBacklog_planQueue (id : Nat) : (s.leaveBacklog id).planQueue = s.planQueue := rfl
@[simp] theorem State.leaveBacklog_plan (id : Nat) : (s.leaveBacklog id).plan = s.plan := rfl
@[simp] theorem State.leaveBacklog_tasks (id : Nat) : (s.leaveBacklog id).tasks = s.tasks := rfl
@[simp] theorem State.leaveBacklog_lastId (id : Nat) : (s.leaveBacklog id).lastId = s.lastId := rfl
@[simp] theorem State.leaveBacklog_loaders (id : Nat) : (s.leaveBacklog id).loaders = s.loaders := rfl
@[simp] theorem State.leaveBacklog_shipLog (id : Nat) : (s.leaveBacklog id).shipLog = s.shipLog := rfl
@[simp] theorem State.leaveBacklog_flags (id : Nat) : (s.leaveBacklog id).flags = s.flags := rfl
@[simp] theorem State.leaveBacklog_pins (id : Nat) : (s.leaveBacklog id).pins = s.pins := rfl
@[simp] theorem State.leaveBacklog_clock (id : Nat) : (s.leaveBacklog id).clock = s.clock := rfl
@[simp] theorem State.leaveBacklog_wet (id : Nat) : (s.leaveBacklog id).wet = s.wet := rfl
@[simp] theorem State.leaveBacklog_working (id : Nat) : (s.leaveBacklog id).working = s.working := rfl
@[simp] theorem State.leaveBacklog_stored (id : Nat) : (s.leaveBacklog id).stored = s.stored := rfl
@[simp] theorem State.leaveBacklog_writeList (id : Nat) : (s.leaveBacklog id).writeList = s.writeList := rfl
@[simp] theorem State.leaveBacklog_writing (id : Nat) : (s.leaveBacklog id).writing = s.writing := rfl
@[simp] theorem State.leaveBacklog_retained (id : Nat) : (s.leaveBacklog id).retained = s.retained := rfl

@[simp] theorem State.endPlan_pending : (s.endPlan).pending = s.pending := rfl
@[simp] theorem State.endPlan_supply : (s.endPlan).supply = s.supply := rfl
@[simp] theorem State.endPlan_cond : (s.endPlan).cond = s.cond := rfl
@[simp] theorem State.endPlan_cause : (s.endPlan).cause = s.cause := rfl
@[simp] theorem State.endPlan_strap : (s.endPlan).strap = s.strap := rfl
@[simp] theorem State.endPlan_ports : (s.endPlan).ports = s.ports := rfl
@[simp] theorem State.endPlan_packs : (s.endPlan).packs = s.packs := rfl
@[simp] theorem State.endPlan_stacks : (s.endPlan).stackMap = s.stackMap := rfl
@[simp] theorem State.endPlan_touches : (s.endPlan).touches = s.touches := rfl
@[simp] theorem State.endPlan_backlog : (s.endPlan).backlog = s.backlog := rfl
@[simp] theorem State.endPlan_stocktake : (s.endPlan).stocktake = s.stocktake := rfl
@[simp] theorem State.endPlan_deck : (s.endPlan).deck = s.deck := rfl
@[simp] theorem State.endPlan_trucks : (s.endPlan).trucks = s.trucks := rfl
@[simp] theorem State.endPlan_arrivals : (s.endPlan).arrivals = s.arrivals := rfl
@[simp] theorem State.endPlan_waiting : (s.endPlan).waiting = s.waiting := rfl
@[simp] theorem State.endPlan_returns : (s.endPlan).returns = s.returns := rfl
@[simp] theorem State.endPlan_planQueue : (s.endPlan).planQueue = s.planQueue := rfl
@[simp] theorem State.endPlan_plan : (s.endPlan).plan = none := rfl
@[simp] theorem State.endPlan_tasks : (s.endPlan).tasks = s.tasks := rfl
@[simp] theorem State.endPlan_lastId : (s.endPlan).lastId = s.lastId := rfl
@[simp] theorem State.endPlan_loaders : (s.endPlan).loaders = s.loaders := rfl
@[simp] theorem State.endPlan_shipLog : (s.endPlan).shipLog = s.shipLog := rfl
@[simp] theorem State.endPlan_flags : (s.endPlan).flags = s.flags := rfl
@[simp] theorem State.endPlan_pins : (s.endPlan).pins = s.pins := rfl
@[simp] theorem State.endPlan_clock : (s.endPlan).clock = s.clock := rfl
@[simp] theorem State.endPlan_wet : (s.endPlan).wet = s.wet := rfl
@[simp] theorem State.endPlan_working : (s.endPlan).working = s.working := rfl
@[simp] theorem State.endPlan_stored : (s.endPlan).stored = s.stored := rfl
@[simp] theorem State.endPlan_writeList : (s.endPlan).writeList = s.writeList := rfl
@[simp] theorem State.endPlan_writing : (s.endPlan).writing = s.writing := rfl
@[simp] theorem State.endPlan_retained : (s.endPlan).retained = s.retained := rfl

@[simp] theorem State.setWorking_pending (k : SettingKind) (i v : Nat) : (s.setWorking k i v).pending = s.pending := rfl
@[simp] theorem State.setWorking_supply (k : SettingKind) (i v : Nat) : (s.setWorking k i v).supply = s.supply := rfl
@[simp] theorem State.setWorking_cond (k : SettingKind) (i v : Nat) : (s.setWorking k i v).cond = s.cond := rfl
@[simp] theorem State.setWorking_cause (k : SettingKind) (i v : Nat) : (s.setWorking k i v).cause = s.cause := rfl
@[simp] theorem State.setWorking_strap (k : SettingKind) (i v : Nat) : (s.setWorking k i v).strap = s.strap := rfl
@[simp] theorem State.setWorking_ports (k : SettingKind) (i v : Nat) : (s.setWorking k i v).ports = s.ports := rfl
@[simp] theorem State.setWorking_packs (k : SettingKind) (i v : Nat) : (s.setWorking k i v).packs = s.packs := rfl
@[simp] theorem State.setWorking_stacks (k : SettingKind) (i v : Nat) : (s.setWorking k i v).stackMap = s.stackMap := rfl
@[simp] theorem State.setWorking_touches (k : SettingKind) (i v : Nat) : (s.setWorking k i v).touches = s.touches := rfl
@[simp] theorem State.setWorking_backlog (k : SettingKind) (i v : Nat) : (s.setWorking k i v).backlog = s.backlog := rfl
@[simp] theorem State.setWorking_stocktake (k : SettingKind) (i v : Nat) : (s.setWorking k i v).stocktake = s.stocktake := rfl
@[simp] theorem State.setWorking_deck (k : SettingKind) (i v : Nat) : (s.setWorking k i v).deck = s.deck := rfl
@[simp] theorem State.setWorking_trucks (k : SettingKind) (i v : Nat) : (s.setWorking k i v).trucks = s.trucks := rfl
@[simp] theorem State.setWorking_arrivals (k : SettingKind) (i v : Nat) : (s.setWorking k i v).arrivals = s.arrivals := rfl
@[simp] theorem State.setWorking_waiting (k : SettingKind) (i v : Nat) : (s.setWorking k i v).waiting = s.waiting := rfl
@[simp] theorem State.setWorking_returns (k : SettingKind) (i v : Nat) : (s.setWorking k i v).returns = s.returns := rfl
@[simp] theorem State.setWorking_planQueue (k : SettingKind) (i v : Nat) : (s.setWorking k i v).planQueue = s.planQueue := rfl
@[simp] theorem State.setWorking_plan (k : SettingKind) (i v : Nat) : (s.setWorking k i v).plan = s.plan := rfl
@[simp] theorem State.setWorking_tasks (k : SettingKind) (i v : Nat) : (s.setWorking k i v).tasks = s.tasks := rfl
@[simp] theorem State.setWorking_lastId (k : SettingKind) (i v : Nat) : (s.setWorking k i v).lastId = s.lastId := rfl
@[simp] theorem State.setWorking_loaders (k : SettingKind) (i v : Nat) : (s.setWorking k i v).loaders = s.loaders := rfl
@[simp] theorem State.setWorking_shipLog (k : SettingKind) (i v : Nat) : (s.setWorking k i v).shipLog = s.shipLog := rfl
@[simp] theorem State.setWorking_flags (k : SettingKind) (i v : Nat) : (s.setWorking k i v).flags = s.flags := rfl
@[simp] theorem State.setWorking_pins (k : SettingKind) (i v : Nat) : (s.setWorking k i v).pins = s.pins := rfl
@[simp] theorem State.setWorking_clock (k : SettingKind) (i v : Nat) : (s.setWorking k i v).clock = s.clock := rfl
@[simp] theorem State.setWorking_wet (k : SettingKind) (i v : Nat) : (s.setWorking k i v).wet = s.wet := rfl
@[simp] theorem State.setWorking_working (k : SettingKind) (i v : Nat) : (s.setWorking k i v).working = writeSetting s.working k i v := rfl
@[simp] theorem State.setWorking_stored (k : SettingKind) (i v : Nat) : (s.setWorking k i v).stored = s.stored := rfl
@[simp] theorem State.setWorking_writeList (k : SettingKind) (i v : Nat) : (s.setWorking k i v).writeList = s.writeList := rfl
@[simp] theorem State.setWorking_writing (k : SettingKind) (i v : Nat) : (s.setWorking k i v).writing = s.writing := rfl
@[simp] theorem State.setWorking_retained (k : SettingKind) (i v : Nat) : (s.setWorking k i v).retained = s.retained := rfl
@[simp] theorem State.setWorking_marks (k : SettingKind) (i v : Nat) : (s.setWorking k i v).marks = s.marks := rfl

@[simp] theorem State.convert_pending (t : Task) (lane : Nat) : (s.convert t lane).pending = s.pending := rfl
@[simp] theorem State.convert_supply (t : Task) (lane : Nat) : (s.convert t lane).supply = s.supply := rfl
@[simp] theorem State.convert_cond (t : Task) (lane : Nat) : (s.convert t lane).cond = s.cond := rfl
@[simp] theorem State.convert_cause (t : Task) (lane : Nat) : (s.convert t lane).cause = s.cause := rfl
@[simp] theorem State.convert_strap (t : Task) (lane : Nat) : (s.convert t lane).strap = s.strap := rfl
@[simp] theorem State.convert_ports (t : Task) (lane : Nat) : (s.convert t lane).ports = s.ports := rfl
@[simp] theorem State.convert_packs (t : Task) (lane : Nat) : (s.convert t lane).packs = s.packs := rfl
@[simp] theorem State.convert_stacks (t : Task) (lane : Nat) : (s.convert t lane).stackMap = s.stackMap := rfl
@[simp] theorem State.convert_touches (t : Task) (lane : Nat) : (s.convert t lane).touches = s.touches.filter (fun u => !(u.place == .lane lane && u.task == t.id)) := rfl
@[simp] theorem State.convert_backlog (t : Task) (lane : Nat) : (s.convert t lane).backlog = s.backlog := rfl
@[simp] theorem State.convert_stocktake (t : Task) (lane : Nat) : (s.convert t lane).stocktake = s.stocktake := rfl
@[simp] theorem State.convert_deck (t : Task) (lane : Nat) : (s.convert t lane).deck = s.deck := rfl
@[simp] theorem State.convert_trucks (t : Task) (lane : Nat) : (s.convert t lane).trucks = s.trucks := rfl
@[simp] theorem State.convert_arrivals (t : Task) (lane : Nat) : (s.convert t lane).arrivals = s.arrivals := rfl
@[simp] theorem State.convert_waiting (t : Task) (lane : Nat) : (s.convert t lane).waiting = s.waiting := rfl
@[simp] theorem State.convert_returns (t : Task) (lane : Nat) : (s.convert t lane).returns = s.returns := rfl
@[simp] theorem State.convert_planQueue (t : Task) (lane : Nat) : (s.convert t lane).planQueue = s.planQueue := rfl
@[simp] theorem State.convert_plan (t : Task) (lane : Nat) : (s.convert t lane).plan = s.plan := rfl
@[simp] theorem State.convert_lastId (t : Task) (lane : Nat) : (s.convert t lane).lastId = s.lastId := rfl
@[simp] theorem State.convert_loaders (t : Task) (lane : Nat) : (s.convert t lane).loaders = s.loaders := rfl
@[simp] theorem State.convert_shipLog (t : Task) (lane : Nat) : (s.convert t lane).shipLog = s.shipLog := rfl
@[simp] theorem State.convert_flags (t : Task) (lane : Nat) : (s.convert t lane).flags = s.flags := rfl
@[simp] theorem State.convert_pins (t : Task) (lane : Nat) : (s.convert t lane).pins = s.pins := rfl
@[simp] theorem State.convert_clock (t : Task) (lane : Nat) : (s.convert t lane).clock = s.clock := rfl
@[simp] theorem State.convert_wet (t : Task) (lane : Nat) : (s.convert t lane).wet = s.wet := rfl
@[simp] theorem State.convert_working (t : Task) (lane : Nat) : (s.convert t lane).working = s.working := rfl
@[simp] theorem State.convert_stored (t : Task) (lane : Nat) : (s.convert t lane).stored = s.stored := rfl
@[simp] theorem State.convert_writeList (t : Task) (lane : Nat) : (s.convert t lane).writeList = s.writeList := rfl
@[simp] theorem State.convert_writing (t : Task) (lane : Nat) : (s.convert t lane).writing = s.writing := rfl
@[simp] theorem State.convert_retained (t : Task) (lane : Nat) : (s.convert t lane).retained = s.retained := rfl
@[simp] theorem State.convert_marks (t : Task) (lane : Nat) : (s.convert t lane).marks = s.marks := rfl

@[simp] theorem State.issue_pending (n id : Nat) : (s.issue n id).pending = s.pending := rfl
@[simp] theorem State.issue_supply (n id : Nat) : (s.issue n id).supply = s.supply := rfl
@[simp] theorem State.issue_cond (n id : Nat) : (s.issue n id).cond = s.cond := rfl
@[simp] theorem State.issue_cause (n id : Nat) : (s.issue n id).cause = s.cause := rfl
@[simp] theorem State.issue_strap (n id : Nat) : (s.issue n id).strap = s.strap := rfl
@[simp] theorem State.issue_ports (n id : Nat) : (s.issue n id).ports = s.ports := rfl
@[simp] theorem State.issue_packs (n id : Nat) : (s.issue n id).packs = s.packs := rfl
@[simp] theorem State.issue_stacks (n id : Nat) : (s.issue n id).stackMap = s.stackMap := rfl
@[simp] theorem State.issue_touches (n id : Nat) : (s.issue n id).touches = s.touches := rfl
@[simp] theorem State.issue_backlog (n id : Nat) : (s.issue n id).backlog = s.backlog := rfl
@[simp] theorem State.issue_stocktake (n id : Nat) : (s.issue n id).stocktake = s.stocktake := rfl
@[simp] theorem State.issue_deck (n id : Nat) : (s.issue n id).deck = s.deck := rfl
@[simp] theorem State.issue_trucks (n id : Nat) : (s.issue n id).trucks = s.trucks := rfl
@[simp] theorem State.issue_arrivals (n id : Nat) : (s.issue n id).arrivals = s.arrivals := rfl
@[simp] theorem State.issue_waiting (n id : Nat) : (s.issue n id).waiting = s.waiting := rfl
@[simp] theorem State.issue_returns (n id : Nat) : (s.issue n id).returns = s.returns := rfl
@[simp] theorem State.issue_planQueue (n id : Nat) : (s.issue n id).planQueue = s.planQueue := rfl
@[simp] theorem State.issue_plan (n id : Nat) : (s.issue n id).plan = s.plan := rfl
@[simp] theorem State.issue_lastId (n id : Nat) : (s.issue n id).lastId = s.lastId := rfl
@[simp] theorem State.issue_shipLog (n id : Nat) : (s.issue n id).shipLog = s.shipLog := rfl
@[simp] theorem State.issue_flags (n id : Nat) : (s.issue n id).flags = s.flags := rfl
@[simp] theorem State.issue_pins (n id : Nat) : (s.issue n id).pins = s.pins := rfl
@[simp] theorem State.issue_clock (n id : Nat) : (s.issue n id).clock = s.clock := rfl
@[simp] theorem State.issue_wet (n id : Nat) : (s.issue n id).wet = s.wet := rfl
@[simp] theorem State.issue_working (n id : Nat) : (s.issue n id).working = s.working := rfl
@[simp] theorem State.issue_stored (n id : Nat) : (s.issue n id).stored = s.stored := rfl
@[simp] theorem State.issue_writeList (n id : Nat) : (s.issue n id).writeList = s.writeList := rfl
@[simp] theorem State.issue_writing (n id : Nat) : (s.issue n id).writing = s.writing := rfl
@[simp] theorem State.issue_retained (n id : Nat) : (s.issue n id).retained = s.retained := rfl
@[simp] theorem State.issue_marks (n id : Nat) : (s.issue n id).marks = s.marks := rfl

@[simp] theorem State.clearMarks_pending : (s.clearMarks).pending = s.pending := rfl
@[simp] theorem State.clearMarks_supply : (s.clearMarks).supply = s.supply := rfl
@[simp] theorem State.clearMarks_cond : (s.clearMarks).cond = s.cond := rfl
@[simp] theorem State.clearMarks_cause : (s.clearMarks).cause = s.cause := rfl
@[simp] theorem State.clearMarks_strap : (s.clearMarks).strap = s.strap := rfl
@[simp] theorem State.clearMarks_ports : (s.clearMarks).ports = s.ports := rfl
@[simp] theorem State.clearMarks_packs : (s.clearMarks).packs = s.packs := rfl
@[simp] theorem State.clearMarks_stacks : (s.clearMarks).stackMap = s.stackMap := rfl
@[simp] theorem State.clearMarks_touches : (s.clearMarks).touches = s.touches := rfl
@[simp] theorem State.clearMarks_backlog : (s.clearMarks).backlog = s.backlog := rfl
@[simp] theorem State.clearMarks_stocktake : (s.clearMarks).stocktake = s.stocktake := rfl
@[simp] theorem State.clearMarks_deck : (s.clearMarks).deck = s.deck := rfl
@[simp] theorem State.clearMarks_trucks : (s.clearMarks).trucks = s.trucks := rfl
@[simp] theorem State.clearMarks_arrivals : (s.clearMarks).arrivals = s.arrivals := rfl
@[simp] theorem State.clearMarks_waiting : (s.clearMarks).waiting = s.waiting := rfl
@[simp] theorem State.clearMarks_returns : (s.clearMarks).returns = s.returns := rfl
@[simp] theorem State.clearMarks_planQueue : (s.clearMarks).planQueue = s.planQueue := rfl
@[simp] theorem State.clearMarks_plan : (s.clearMarks).plan = s.plan := rfl
@[simp] theorem State.clearMarks_tasks : (s.clearMarks).tasks = s.tasks := rfl
@[simp] theorem State.clearMarks_lastId : (s.clearMarks).lastId = s.lastId := rfl
@[simp] theorem State.clearMarks_loaders : (s.clearMarks).loaders = s.loaders := rfl
@[simp] theorem State.clearMarks_shipLog : (s.clearMarks).shipLog = s.shipLog := rfl
@[simp] theorem State.clearMarks_flags : (s.clearMarks).flags = s.flags := rfl
@[simp] theorem State.clearMarks_pins : (s.clearMarks).pins = s.pins := rfl
@[simp] theorem State.clearMarks_clock : (s.clearMarks).clock = s.clock := rfl
@[simp] theorem State.clearMarks_wet : (s.clearMarks).wet = s.wet := rfl
@[simp] theorem State.clearMarks_working : (s.clearMarks).working = s.working := rfl
@[simp] theorem State.clearMarks_stored : (s.clearMarks).stored = s.stored := rfl
@[simp] theorem State.clearMarks_writeList : (s.clearMarks).writeList = s.writeList := rfl
@[simp] theorem State.clearMarks_writing : (s.clearMarks).writing = s.writing := rfl
@[simp] theorem State.clearMarks_retained : (s.clearMarks).retained = s.retained := rfl
@[simp] theorem State.clearMarks_marks : (s.clearMarks).marks = {} := rfl

@[simp] theorem State.markSpace_pending : (s.markSpace).pending = s.pending := rfl
@[simp] theorem State.markSpace_supply : (s.markSpace).supply = s.supply := rfl
@[simp] theorem State.markSpace_cond : (s.markSpace).cond = s.cond := rfl
@[simp] theorem State.markSpace_cause : (s.markSpace).cause = s.cause := rfl
@[simp] theorem State.markSpace_strap : (s.markSpace).strap = s.strap := rfl
@[simp] theorem State.markSpace_ports : (s.markSpace).ports = s.ports := rfl
@[simp] theorem State.markSpace_packs : (s.markSpace).packs = s.packs := rfl
@[simp] theorem State.markSpace_stacks : (s.markSpace).stackMap = s.stackMap := rfl
@[simp] theorem State.markSpace_touches : (s.markSpace).touches = s.touches := rfl
@[simp] theorem State.markSpace_backlog : (s.markSpace).backlog = s.backlog := rfl
@[simp] theorem State.markSpace_stocktake : (s.markSpace).stocktake = s.stocktake := rfl
@[simp] theorem State.markSpace_deck : (s.markSpace).deck = s.deck := rfl
@[simp] theorem State.markSpace_trucks : (s.markSpace).trucks = s.trucks := rfl
@[simp] theorem State.markSpace_arrivals : (s.markSpace).arrivals = s.arrivals := rfl
@[simp] theorem State.markSpace_waiting : (s.markSpace).waiting = s.waiting := rfl
@[simp] theorem State.markSpace_returns : (s.markSpace).returns = s.returns := rfl
@[simp] theorem State.markSpace_planQueue : (s.markSpace).planQueue = s.planQueue := rfl
@[simp] theorem State.markSpace_plan : (s.markSpace).plan = s.plan := rfl
@[simp] theorem State.markSpace_tasks : (s.markSpace).tasks = s.tasks := rfl
@[simp] theorem State.markSpace_lastId : (s.markSpace).lastId = s.lastId := rfl
@[simp] theorem State.markSpace_loaders : (s.markSpace).loaders = s.loaders := rfl
@[simp] theorem State.markSpace_shipLog : (s.markSpace).shipLog = s.shipLog := rfl
@[simp] theorem State.markSpace_flags : (s.markSpace).flags = s.flags := rfl
@[simp] theorem State.markSpace_pins : (s.markSpace).pins = s.pins := rfl
@[simp] theorem State.markSpace_clock : (s.markSpace).clock = s.clock := rfl
@[simp] theorem State.markSpace_wet : (s.markSpace).wet = s.wet := rfl
@[simp] theorem State.markSpace_working : (s.markSpace).working = s.working := rfl
@[simp] theorem State.markSpace_stored : (s.markSpace).stored = s.stored := rfl
@[simp] theorem State.markSpace_writeList : (s.markSpace).writeList = s.writeList := rfl
@[simp] theorem State.markSpace_writing : (s.markSpace).writing = s.writing := rfl
@[simp] theorem State.markSpace_retained : (s.markSpace).retained = s.retained := rfl

@[simp] theorem State.markFreed_pending : (s.markFreed).pending = s.pending := rfl
@[simp] theorem State.markFreed_supply : (s.markFreed).supply = s.supply := rfl
@[simp] theorem State.markFreed_cond : (s.markFreed).cond = s.cond := rfl
@[simp] theorem State.markFreed_cause : (s.markFreed).cause = s.cause := rfl
@[simp] theorem State.markFreed_strap : (s.markFreed).strap = s.strap := rfl
@[simp] theorem State.markFreed_ports : (s.markFreed).ports = s.ports := rfl
@[simp] theorem State.markFreed_packs : (s.markFreed).packs = s.packs := rfl
@[simp] theorem State.markFreed_stacks : (s.markFreed).stackMap = s.stackMap := rfl
@[simp] theorem State.markFreed_touches : (s.markFreed).touches = s.touches := rfl
@[simp] theorem State.markFreed_backlog : (s.markFreed).backlog = s.backlog := rfl
@[simp] theorem State.markFreed_stocktake : (s.markFreed).stocktake = s.stocktake := rfl
@[simp] theorem State.markFreed_deck : (s.markFreed).deck = s.deck := rfl
@[simp] theorem State.markFreed_trucks : (s.markFreed).trucks = s.trucks := rfl
@[simp] theorem State.markFreed_arrivals : (s.markFreed).arrivals = s.arrivals := rfl
@[simp] theorem State.markFreed_waiting : (s.markFreed).waiting = s.waiting := rfl
@[simp] theorem State.markFreed_returns : (s.markFreed).returns = s.returns := rfl
@[simp] theorem State.markFreed_planQueue : (s.markFreed).planQueue = s.planQueue := rfl
@[simp] theorem State.markFreed_plan : (s.markFreed).plan = s.plan := rfl
@[simp] theorem State.markFreed_tasks : (s.markFreed).tasks = s.tasks := rfl
@[simp] theorem State.markFreed_lastId : (s.markFreed).lastId = s.lastId := rfl
@[simp] theorem State.markFreed_loaders : (s.markFreed).loaders = s.loaders := rfl
@[simp] theorem State.markFreed_shipLog : (s.markFreed).shipLog = s.shipLog := rfl
@[simp] theorem State.markFreed_flags : (s.markFreed).flags = s.flags := rfl
@[simp] theorem State.markFreed_pins : (s.markFreed).pins = s.pins := rfl
@[simp] theorem State.markFreed_clock : (s.markFreed).clock = s.clock := rfl
@[simp] theorem State.markFreed_wet : (s.markFreed).wet = s.wet := rfl
@[simp] theorem State.markFreed_working : (s.markFreed).working = s.working := rfl
@[simp] theorem State.markFreed_stored : (s.markFreed).stored = s.stored := rfl
@[simp] theorem State.markFreed_writeList : (s.markFreed).writeList = s.writeList := rfl
@[simp] theorem State.markFreed_writing : (s.markFreed).writing = s.writing := rfl
@[simp] theorem State.markFreed_retained : (s.markFreed).retained = s.retained := rfl

@[simp] theorem State.markServe_pending : (s.markServe).pending = s.pending := rfl
@[simp] theorem State.markServe_supply : (s.markServe).supply = s.supply := rfl
@[simp] theorem State.markServe_cond : (s.markServe).cond = s.cond := rfl
@[simp] theorem State.markServe_cause : (s.markServe).cause = s.cause := rfl
@[simp] theorem State.markServe_strap : (s.markServe).strap = s.strap := rfl
@[simp] theorem State.markServe_ports : (s.markServe).ports = s.ports := rfl
@[simp] theorem State.markServe_packs : (s.markServe).packs = s.packs := rfl
@[simp] theorem State.markServe_stacks : (s.markServe).stackMap = s.stackMap := rfl
@[simp] theorem State.markServe_touches : (s.markServe).touches = s.touches := rfl
@[simp] theorem State.markServe_backlog : (s.markServe).backlog = s.backlog := rfl
@[simp] theorem State.markServe_stocktake : (s.markServe).stocktake = s.stocktake := rfl
@[simp] theorem State.markServe_deck : (s.markServe).deck = s.deck := rfl
@[simp] theorem State.markServe_trucks : (s.markServe).trucks = s.trucks := rfl
@[simp] theorem State.markServe_arrivals : (s.markServe).arrivals = s.arrivals := rfl
@[simp] theorem State.markServe_waiting : (s.markServe).waiting = s.waiting := rfl
@[simp] theorem State.markServe_returns : (s.markServe).returns = s.returns := rfl
@[simp] theorem State.markServe_planQueue : (s.markServe).planQueue = s.planQueue := rfl
@[simp] theorem State.markServe_plan : (s.markServe).plan = s.plan := rfl
@[simp] theorem State.markServe_tasks : (s.markServe).tasks = s.tasks := rfl
@[simp] theorem State.markServe_lastId : (s.markServe).lastId = s.lastId := rfl
@[simp] theorem State.markServe_loaders : (s.markServe).loaders = s.loaders := rfl
@[simp] theorem State.markServe_shipLog : (s.markServe).shipLog = s.shipLog := rfl
@[simp] theorem State.markServe_flags : (s.markServe).flags = s.flags := rfl
@[simp] theorem State.markServe_pins : (s.markServe).pins = s.pins := rfl
@[simp] theorem State.markServe_clock : (s.markServe).clock = s.clock := rfl
@[simp] theorem State.markServe_wet : (s.markServe).wet = s.wet := rfl
@[simp] theorem State.markServe_working : (s.markServe).working = s.working := rfl
@[simp] theorem State.markServe_stored : (s.markServe).stored = s.stored := rfl
@[simp] theorem State.markServe_writeList : (s.markServe).writeList = s.writeList := rfl
@[simp] theorem State.markServe_writing : (s.markServe).writing = s.writing := rfl
@[simp] theorem State.markServe_retained : (s.markServe).retained = s.retained := rfl

@[simp] theorem State.markPuts_pending : (s.markPuts).pending = s.pending := rfl
@[simp] theorem State.markPuts_supply : (s.markPuts).supply = s.supply := rfl
@[simp] theorem State.markPuts_cond : (s.markPuts).cond = s.cond := rfl
@[simp] theorem State.markPuts_cause : (s.markPuts).cause = s.cause := rfl
@[simp] theorem State.markPuts_strap : (s.markPuts).strap = s.strap := rfl
@[simp] theorem State.markPuts_ports : (s.markPuts).ports = s.ports := rfl
@[simp] theorem State.markPuts_packs : (s.markPuts).packs = s.packs := rfl
@[simp] theorem State.markPuts_stacks : (s.markPuts).stackMap = s.stackMap := rfl
@[simp] theorem State.markPuts_touches : (s.markPuts).touches = s.touches := rfl
@[simp] theorem State.markPuts_backlog : (s.markPuts).backlog = s.backlog := rfl
@[simp] theorem State.markPuts_stocktake : (s.markPuts).stocktake = s.stocktake := rfl
@[simp] theorem State.markPuts_deck : (s.markPuts).deck = s.deck := rfl
@[simp] theorem State.markPuts_trucks : (s.markPuts).trucks = s.trucks := rfl
@[simp] theorem State.markPuts_arrivals : (s.markPuts).arrivals = s.arrivals := rfl
@[simp] theorem State.markPuts_waiting : (s.markPuts).waiting = s.waiting := rfl
@[simp] theorem State.markPuts_returns : (s.markPuts).returns = s.returns := rfl
@[simp] theorem State.markPuts_planQueue : (s.markPuts).planQueue = s.planQueue := rfl
@[simp] theorem State.markPuts_plan : (s.markPuts).plan = s.plan := rfl
@[simp] theorem State.markPuts_tasks : (s.markPuts).tasks = s.tasks := rfl
@[simp] theorem State.markPuts_lastId : (s.markPuts).lastId = s.lastId := rfl
@[simp] theorem State.markPuts_loaders : (s.markPuts).loaders = s.loaders := rfl
@[simp] theorem State.markPuts_shipLog : (s.markPuts).shipLog = s.shipLog := rfl
@[simp] theorem State.markPuts_flags : (s.markPuts).flags = s.flags := rfl
@[simp] theorem State.markPuts_pins : (s.markPuts).pins = s.pins := rfl
@[simp] theorem State.markPuts_clock : (s.markPuts).clock = s.clock := rfl
@[simp] theorem State.markPuts_wet : (s.markPuts).wet = s.wet := rfl
@[simp] theorem State.markPuts_working : (s.markPuts).working = s.working := rfl
@[simp] theorem State.markPuts_stored : (s.markPuts).stored = s.stored := rfl
@[simp] theorem State.markPuts_writeList : (s.markPuts).writeList = s.writeList := rfl
@[simp] theorem State.markPuts_writing : (s.markPuts).writing = s.writing := rfl
@[simp] theorem State.markPuts_retained : (s.markPuts).retained = s.retained := rfl

@[simp] theorem State.markEngine_pending : (s.markEngine).pending = s.pending := rfl
@[simp] theorem State.markEngine_supply : (s.markEngine).supply = s.supply := rfl
@[simp] theorem State.markEngine_cond : (s.markEngine).cond = s.cond := rfl
@[simp] theorem State.markEngine_cause : (s.markEngine).cause = s.cause := rfl
@[simp] theorem State.markEngine_strap : (s.markEngine).strap = s.strap := rfl
@[simp] theorem State.markEngine_ports : (s.markEngine).ports = s.ports := rfl
@[simp] theorem State.markEngine_packs : (s.markEngine).packs = s.packs := rfl
@[simp] theorem State.markEngine_stacks : (s.markEngine).stackMap = s.stackMap := rfl
@[simp] theorem State.markEngine_touches : (s.markEngine).touches = s.touches := rfl
@[simp] theorem State.markEngine_backlog : (s.markEngine).backlog = s.backlog := rfl
@[simp] theorem State.markEngine_stocktake : (s.markEngine).stocktake = s.stocktake := rfl
@[simp] theorem State.markEngine_deck : (s.markEngine).deck = s.deck := rfl
@[simp] theorem State.markEngine_trucks : (s.markEngine).trucks = s.trucks := rfl
@[simp] theorem State.markEngine_arrivals : (s.markEngine).arrivals = s.arrivals := rfl
@[simp] theorem State.markEngine_waiting : (s.markEngine).waiting = s.waiting := rfl
@[simp] theorem State.markEngine_returns : (s.markEngine).returns = s.returns := rfl
@[simp] theorem State.markEngine_planQueue : (s.markEngine).planQueue = s.planQueue := rfl
@[simp] theorem State.markEngine_plan : (s.markEngine).plan = s.plan := rfl
@[simp] theorem State.markEngine_tasks : (s.markEngine).tasks = s.tasks := rfl
@[simp] theorem State.markEngine_lastId : (s.markEngine).lastId = s.lastId := rfl
@[simp] theorem State.markEngine_loaders : (s.markEngine).loaders = s.loaders := rfl
@[simp] theorem State.markEngine_shipLog : (s.markEngine).shipLog = s.shipLog := rfl
@[simp] theorem State.markEngine_flags : (s.markEngine).flags = s.flags := rfl
@[simp] theorem State.markEngine_pins : (s.markEngine).pins = s.pins := rfl
@[simp] theorem State.markEngine_clock : (s.markEngine).clock = s.clock := rfl
@[simp] theorem State.markEngine_wet : (s.markEngine).wet = s.wet := rfl
@[simp] theorem State.markEngine_working : (s.markEngine).working = s.working := rfl
@[simp] theorem State.markEngine_stored : (s.markEngine).stored = s.stored := rfl
@[simp] theorem State.markEngine_writeList : (s.markEngine).writeList = s.writeList := rfl
@[simp] theorem State.markEngine_writing : (s.markEngine).writing = s.writing := rfl
@[simp] theorem State.markEngine_retained : (s.markEngine).retained = s.retained := rfl

@[simp] theorem State.markFeed_pending : (s.markFeed).pending = s.pending := rfl
@[simp] theorem State.markFeed_supply : (s.markFeed).supply = s.supply := rfl
@[simp] theorem State.markFeed_cond : (s.markFeed).cond = s.cond := rfl
@[simp] theorem State.markFeed_cause : (s.markFeed).cause = s.cause := rfl
@[simp] theorem State.markFeed_strap : (s.markFeed).strap = s.strap := rfl
@[simp] theorem State.markFeed_ports : (s.markFeed).ports = s.ports := rfl
@[simp] theorem State.markFeed_packs : (s.markFeed).packs = s.packs := rfl
@[simp] theorem State.markFeed_stacks : (s.markFeed).stackMap = s.stackMap := rfl
@[simp] theorem State.markFeed_touches : (s.markFeed).touches = s.touches := rfl
@[simp] theorem State.markFeed_backlog : (s.markFeed).backlog = s.backlog := rfl
@[simp] theorem State.markFeed_stocktake : (s.markFeed).stocktake = s.stocktake := rfl
@[simp] theorem State.markFeed_deck : (s.markFeed).deck = s.deck := rfl
@[simp] theorem State.markFeed_trucks : (s.markFeed).trucks = s.trucks := rfl
@[simp] theorem State.markFeed_arrivals : (s.markFeed).arrivals = s.arrivals := rfl
@[simp] theorem State.markFeed_waiting : (s.markFeed).waiting = s.waiting := rfl
@[simp] theorem State.markFeed_returns : (s.markFeed).returns = s.returns := rfl
@[simp] theorem State.markFeed_planQueue : (s.markFeed).planQueue = s.planQueue := rfl
@[simp] theorem State.markFeed_plan : (s.markFeed).plan = s.plan := rfl
@[simp] theorem State.markFeed_tasks : (s.markFeed).tasks = s.tasks := rfl
@[simp] theorem State.markFeed_lastId : (s.markFeed).lastId = s.lastId := rfl
@[simp] theorem State.markFeed_loaders : (s.markFeed).loaders = s.loaders := rfl
@[simp] theorem State.markFeed_shipLog : (s.markFeed).shipLog = s.shipLog := rfl
@[simp] theorem State.markFeed_flags : (s.markFeed).flags = s.flags := rfl
@[simp] theorem State.markFeed_pins : (s.markFeed).pins = s.pins := rfl
@[simp] theorem State.markFeed_clock : (s.markFeed).clock = s.clock := rfl
@[simp] theorem State.markFeed_wet : (s.markFeed).wet = s.wet := rfl
@[simp] theorem State.markFeed_working : (s.markFeed).working = s.working := rfl
@[simp] theorem State.markFeed_stored : (s.markFeed).stored = s.stored := rfl
@[simp] theorem State.markFeed_writeList : (s.markFeed).writeList = s.writeList := rfl
@[simp] theorem State.markFeed_writing : (s.markFeed).writing = s.writing := rfl
@[simp] theorem State.markFeed_retained : (s.markFeed).retained = s.retained := rfl

@[simp] theorem State.markWatch_pending : (s.markWatch).pending = s.pending := rfl
@[simp] theorem State.markWatch_supply : (s.markWatch).supply = s.supply := rfl
@[simp] theorem State.markWatch_cond : (s.markWatch).cond = s.cond := rfl
@[simp] theorem State.markWatch_cause : (s.markWatch).cause = s.cause := rfl
@[simp] theorem State.markWatch_strap : (s.markWatch).strap = s.strap := rfl
@[simp] theorem State.markWatch_ports : (s.markWatch).ports = s.ports := rfl
@[simp] theorem State.markWatch_packs : (s.markWatch).packs = s.packs := rfl
@[simp] theorem State.markWatch_stacks : (s.markWatch).stackMap = s.stackMap := rfl
@[simp] theorem State.markWatch_touches : (s.markWatch).touches = s.touches := rfl
@[simp] theorem State.markWatch_backlog : (s.markWatch).backlog = s.backlog := rfl
@[simp] theorem State.markWatch_stocktake : (s.markWatch).stocktake = s.stocktake := rfl
@[simp] theorem State.markWatch_deck : (s.markWatch).deck = s.deck := rfl
@[simp] theorem State.markWatch_trucks : (s.markWatch).trucks = s.trucks := rfl
@[simp] theorem State.markWatch_arrivals : (s.markWatch).arrivals = s.arrivals := rfl
@[simp] theorem State.markWatch_waiting : (s.markWatch).waiting = s.waiting := rfl
@[simp] theorem State.markWatch_returns : (s.markWatch).returns = s.returns := rfl
@[simp] theorem State.markWatch_planQueue : (s.markWatch).planQueue = s.planQueue := rfl
@[simp] theorem State.markWatch_plan : (s.markWatch).plan = s.plan := rfl
@[simp] theorem State.markWatch_tasks : (s.markWatch).tasks = s.tasks := rfl
@[simp] theorem State.markWatch_lastId : (s.markWatch).lastId = s.lastId := rfl
@[simp] theorem State.markWatch_loaders : (s.markWatch).loaders = s.loaders := rfl
@[simp] theorem State.markWatch_shipLog : (s.markWatch).shipLog = s.shipLog := rfl
@[simp] theorem State.markWatch_flags : (s.markWatch).flags = s.flags := rfl
@[simp] theorem State.markWatch_pins : (s.markWatch).pins = s.pins := rfl
@[simp] theorem State.markWatch_clock : (s.markWatch).clock = s.clock := rfl
@[simp] theorem State.markWatch_wet : (s.markWatch).wet = s.wet := rfl
@[simp] theorem State.markWatch_working : (s.markWatch).working = s.working := rfl
@[simp] theorem State.markWatch_stored : (s.markWatch).stored = s.stored := rfl
@[simp] theorem State.markWatch_writeList : (s.markWatch).writeList = s.writeList := rfl
@[simp] theorem State.markWatch_writing : (s.markWatch).writing = s.writing := rfl
@[simp] theorem State.markWatch_retained : (s.markWatch).retained = s.retained := rfl

@[simp] theorem State.markTake_pending : (s.markTake).pending = s.pending := rfl
@[simp] theorem State.markTake_supply : (s.markTake).supply = s.supply := rfl
@[simp] theorem State.markTake_cond : (s.markTake).cond = s.cond := rfl
@[simp] theorem State.markTake_cause : (s.markTake).cause = s.cause := rfl
@[simp] theorem State.markTake_strap : (s.markTake).strap = s.strap := rfl
@[simp] theorem State.markTake_ports : (s.markTake).ports = s.ports := rfl
@[simp] theorem State.markTake_packs : (s.markTake).packs = s.packs := rfl
@[simp] theorem State.markTake_stacks : (s.markTake).stackMap = s.stackMap := rfl
@[simp] theorem State.markTake_touches : (s.markTake).touches = s.touches := rfl
@[simp] theorem State.markTake_backlog : (s.markTake).backlog = s.backlog := rfl
@[simp] theorem State.markTake_stocktake : (s.markTake).stocktake = s.stocktake := rfl
@[simp] theorem State.markTake_deck : (s.markTake).deck = s.deck := rfl
@[simp] theorem State.markTake_trucks : (s.markTake).trucks = s.trucks := rfl
@[simp] theorem State.markTake_arrivals : (s.markTake).arrivals = s.arrivals := rfl
@[simp] theorem State.markTake_waiting : (s.markTake).waiting = s.waiting := rfl
@[simp] theorem State.markTake_returns : (s.markTake).returns = s.returns := rfl
@[simp] theorem State.markTake_planQueue : (s.markTake).planQueue = s.planQueue := rfl
@[simp] theorem State.markTake_plan : (s.markTake).plan = s.plan := rfl
@[simp] theorem State.markTake_tasks : (s.markTake).tasks = s.tasks := rfl
@[simp] theorem State.markTake_lastId : (s.markTake).lastId = s.lastId := rfl
@[simp] theorem State.markTake_loaders : (s.markTake).loaders = s.loaders := rfl
@[simp] theorem State.markTake_shipLog : (s.markTake).shipLog = s.shipLog := rfl
@[simp] theorem State.markTake_flags : (s.markTake).flags = s.flags := rfl
@[simp] theorem State.markTake_pins : (s.markTake).pins = s.pins := rfl
@[simp] theorem State.markTake_clock : (s.markTake).clock = s.clock := rfl
@[simp] theorem State.markTake_wet : (s.markTake).wet = s.wet := rfl
@[simp] theorem State.markTake_working : (s.markTake).working = s.working := rfl
@[simp] theorem State.markTake_stored : (s.markTake).stored = s.stored := rfl
@[simp] theorem State.markTake_writeList : (s.markTake).writeList = s.writeList := rfl
@[simp] theorem State.markTake_writing : (s.markTake).writing = s.writing := rfl
@[simp] theorem State.markTake_retained : (s.markTake).retained = s.retained := rfl

@[simp] theorem State.markAdmit_pending : (s.markAdmit).pending = s.pending := rfl
@[simp] theorem State.markAdmit_supply : (s.markAdmit).supply = s.supply := rfl
@[simp] theorem State.markAdmit_cond : (s.markAdmit).cond = s.cond := rfl
@[simp] theorem State.markAdmit_cause : (s.markAdmit).cause = s.cause := rfl
@[simp] theorem State.markAdmit_strap : (s.markAdmit).strap = s.strap := rfl
@[simp] theorem State.markAdmit_ports : (s.markAdmit).ports = s.ports := rfl
@[simp] theorem State.markAdmit_packs : (s.markAdmit).packs = s.packs := rfl
@[simp] theorem State.markAdmit_stacks : (s.markAdmit).stackMap = s.stackMap := rfl
@[simp] theorem State.markAdmit_touches : (s.markAdmit).touches = s.touches := rfl
@[simp] theorem State.markAdmit_backlog : (s.markAdmit).backlog = s.backlog := rfl
@[simp] theorem State.markAdmit_stocktake : (s.markAdmit).stocktake = s.stocktake := rfl
@[simp] theorem State.markAdmit_deck : (s.markAdmit).deck = s.deck := rfl
@[simp] theorem State.markAdmit_trucks : (s.markAdmit).trucks = s.trucks := rfl
@[simp] theorem State.markAdmit_arrivals : (s.markAdmit).arrivals = s.arrivals := rfl
@[simp] theorem State.markAdmit_waiting : (s.markAdmit).waiting = s.waiting := rfl
@[simp] theorem State.markAdmit_returns : (s.markAdmit).returns = s.returns := rfl
@[simp] theorem State.markAdmit_planQueue : (s.markAdmit).planQueue = s.planQueue := rfl
@[simp] theorem State.markAdmit_plan : (s.markAdmit).plan = s.plan := rfl
@[simp] theorem State.markAdmit_tasks : (s.markAdmit).tasks = s.tasks := rfl
@[simp] theorem State.markAdmit_lastId : (s.markAdmit).lastId = s.lastId := rfl
@[simp] theorem State.markAdmit_loaders : (s.markAdmit).loaders = s.loaders := rfl
@[simp] theorem State.markAdmit_shipLog : (s.markAdmit).shipLog = s.shipLog := rfl
@[simp] theorem State.markAdmit_flags : (s.markAdmit).flags = s.flags := rfl
@[simp] theorem State.markAdmit_pins : (s.markAdmit).pins = s.pins := rfl
@[simp] theorem State.markAdmit_clock : (s.markAdmit).clock = s.clock := rfl
@[simp] theorem State.markAdmit_wet : (s.markAdmit).wet = s.wet := rfl
@[simp] theorem State.markAdmit_working : (s.markAdmit).working = s.working := rfl
@[simp] theorem State.markAdmit_stored : (s.markAdmit).stored = s.stored := rfl
@[simp] theorem State.markAdmit_writeList : (s.markAdmit).writeList = s.writeList := rfl
@[simp] theorem State.markAdmit_writing : (s.markAdmit).writing = s.writing := rfl
@[simp] theorem State.markAdmit_retained : (s.markAdmit).retained = s.retained := rfl

@[simp] theorem State.markGate_pending : (s.markGate).pending = s.pending := rfl
@[simp] theorem State.markGate_supply : (s.markGate).supply = s.supply := rfl
@[simp] theorem State.markGate_cond : (s.markGate).cond = s.cond := rfl
@[simp] theorem State.markGate_cause : (s.markGate).cause = s.cause := rfl
@[simp] theorem State.markGate_strap : (s.markGate).strap = s.strap := rfl
@[simp] theorem State.markGate_ports : (s.markGate).ports = s.ports := rfl
@[simp] theorem State.markGate_packs : (s.markGate).packs = s.packs := rfl
@[simp] theorem State.markGate_stacks : (s.markGate).stackMap = s.stackMap := rfl
@[simp] theorem State.markGate_touches : (s.markGate).touches = s.touches := rfl
@[simp] theorem State.markGate_backlog : (s.markGate).backlog = s.backlog := rfl
@[simp] theorem State.markGate_stocktake : (s.markGate).stocktake = s.stocktake := rfl
@[simp] theorem State.markGate_deck : (s.markGate).deck = s.deck := rfl
@[simp] theorem State.markGate_trucks : (s.markGate).trucks = s.trucks := rfl
@[simp] theorem State.markGate_arrivals : (s.markGate).arrivals = s.arrivals := rfl
@[simp] theorem State.markGate_waiting : (s.markGate).waiting = s.waiting := rfl
@[simp] theorem State.markGate_returns : (s.markGate).returns = s.returns := rfl
@[simp] theorem State.markGate_planQueue : (s.markGate).planQueue = s.planQueue := rfl
@[simp] theorem State.markGate_plan : (s.markGate).plan = s.plan := rfl
@[simp] theorem State.markGate_tasks : (s.markGate).tasks = s.tasks := rfl
@[simp] theorem State.markGate_lastId : (s.markGate).lastId = s.lastId := rfl
@[simp] theorem State.markGate_loaders : (s.markGate).loaders = s.loaders := rfl
@[simp] theorem State.markGate_shipLog : (s.markGate).shipLog = s.shipLog := rfl
@[simp] theorem State.markGate_flags : (s.markGate).flags = s.flags := rfl
@[simp] theorem State.markGate_pins : (s.markGate).pins = s.pins := rfl
@[simp] theorem State.markGate_clock : (s.markGate).clock = s.clock := rfl
@[simp] theorem State.markGate_wet : (s.markGate).wet = s.wet := rfl
@[simp] theorem State.markGate_working : (s.markGate).working = s.working := rfl
@[simp] theorem State.markGate_stored : (s.markGate).stored = s.stored := rfl
@[simp] theorem State.markGate_writeList : (s.markGate).writeList = s.writeList := rfl
@[simp] theorem State.markGate_writing : (s.markGate).writing = s.writing := rfl
@[simp] theorem State.markGate_retained : (s.markGate).retained = s.retained := rfl

end Sys2Proof.Machine
end

