-- ==== Sys2Proof/Laws/Frame0.lean ====
section
/-! SUPPORT. How a field that one step of a fold leaves unchanged is left unchanged by the fold. -/
namespace Sys2Proof.Machine

/-- A projection that one step keeps is kept by a fold. -/
theorem foldl_field {α β : Type} (g : State → β) (f : State → α → State) (h : ∀ s a, g (f s a) = g s) (l : List α) (s : State) :
    g (l.foldl f s) = g s := by
  induction l generalizing s with
  | nil => rfl
  | cons a l ih => rw [List.foldl_cons, ih, h]

/-- A projection that one step keeps is kept by its repetition. -/
theorem repeat_field {β : Type} (g : State → β) (f : State → State) (h : ∀ s, g (f s) = g s) (n : Nat) (s : State) :
    g (Nat.repeat f n s) = g s := by
  induction n with
  | zero => rfl
  | succ n ih => rw [Nat.repeat, h, ih]

/-- A property that one step keeps is kept by a fold. -/
theorem foldl_keeps {α : Type} (P : State → Prop) (f : State → α → State) (h : ∀ s a, P s → P (f s a)) (l : List α) (s : State)
    (hs : P s) : P (l.foldl f s) := by
  induction l generalizing s with
  | nil => exact hs
  | cons a l ih => exact ih _ (h s a hs)

/-- A property that one step keeps is kept by its repetition. -/
theorem repeat_keeps (P : State → Prop) (f : State → State) (h : ∀ s, P s → P (f s)) (n : Nat) (s : State) (hs : P s) :
    P (Nat.repeat f n s) := by
  induction n with
  | zero => exact hs
  | succ n ih => exact h _ ih

/-- A stage is its operation, or nothing. -/
theorem State.stage_of (owed : State → Bool) (f : State → State) (s : State) : s.stage owed f = if owed s then f s else s := rfl

end Sys2Proof.Machine
end

