-- ==== Sys2Proof/Laws/Frame1.lean ====
section
/-! SUPPORT. What each shared operation leaves unchanged: one frame for each, and one lemma for each field of it. -/
namespace Sys2Proof.Machine

variable (s : State)

@[simp] theorem State.joinBacklog_frame (id : Nat) (r : Reason) :
    (s.joinBacklog id r).pending = s.pending ∧ (s.joinBacklog id r).supply = s.supply ∧ (s.joinBacklog id r).cond = s.cond ∧
    (s.joinBacklog id r).cause = s.cause ∧ (s.joinBacklog id r).strap = s.strap ∧ (s.joinBacklog id r).ports = s.ports ∧
    (s.joinBacklog id r).packs = s.packs ∧ (s.joinBacklog id r).stackMap = s.stackMap ∧ (s.joinBacklog id r).touches = s.touches ∧
    (s.joinBacklog id r).stocktake = s.stocktake ∧ (s.joinBacklog id r).deck = s.deck ∧
    (s.joinBacklog id r).trucks = s.trucks ∧ (s.joinBacklog id r).arrivals = s.arrivals ∧
    (s.joinBacklog id r).waiting = s.waiting ∧ (s.joinBacklog id r).returns = s.returns ∧
    (s.joinBacklog id r).planQueue = s.planQueue ∧ (s.joinBacklog id r).plan = s.plan ∧ (s.joinBacklog id r).tasks = s.tasks ∧
    (s.joinBacklog id r).lastId = s.lastId ∧ (s.joinBacklog id r).loaders = s.loaders ∧
    (s.joinBacklog id r).shipLog = s.shipLog ∧ (s.joinBacklog id r).flags = s.flags ∧ (s.joinBacklog id r).pins = s.pins ∧
    (s.joinBacklog id r).clock = s.clock ∧ (s.joinBacklog id r).wet = s.wet ∧ (s.joinBacklog id r).working = s.working ∧
    (s.joinBacklog id r).stored = s.stored ∧ (s.joinBacklog id r).writeList = s.writeList ∧
    (s.joinBacklog id r).writing = s.writing ∧ (s.joinBacklog id r).retained = s.retained := by
  simp only [State.joinBacklog]
  repeat' split
  all_goals simp
@[simp] theorem State.foldl_joinBacklog_frame (r : Reason) (l : List Nat) :
    (l.foldl (fun s id => s.joinBacklog id r) s).pending = s.pending ∧
    (l.foldl (fun s id => s.joinBacklog id r) s).supply = s.supply ∧
    (l.foldl (fun s id => s.joinBacklog id r) s).cond = s.cond ∧ (l.foldl (fun s id => s.joinBacklog id r) s).cause = s.cause ∧
    (l.foldl (fun s id => s.joinBacklog id r) s).strap = s.strap ∧
    (l.foldl (fun s id => s.joinBacklog id r) s).ports = s.ports ∧
    (l.foldl (fun s id => s.joinBacklog id r) s).packs = s.packs ∧
    (l.foldl (fun s id => s.joinBacklog id r) s).stackMap = s.stackMap ∧
    (l.foldl (fun s id => s.joinBacklog id r) s).touches = s.touches ∧
    (l.foldl (fun s id => s.joinBacklog id r) s).stocktake = s.stocktake ∧
    (l.foldl (fun s id => s.joinBacklog id r) s).deck = s.deck ∧
    (l.foldl (fun s id => s.joinBacklog id r) s).trucks = s.trucks ∧
    (l.foldl (fun s id => s.joinBacklog id r) s).arrivals = s.arrivals ∧
    (l.foldl (fun s id => s.joinBacklog id r) s).waiting = s.waiting ∧
    (l.foldl (fun s id => s.joinBacklog id r) s).returns = s.returns ∧
    (l.foldl (fun s id => s.joinBacklog id r) s).planQueue = s.planQueue ∧
    (l.foldl (fun s id => s.joinBacklog id r) s).plan = s.plan ∧ (l.foldl (fun s id => s.joinBacklog id r) s).tasks = s.tasks ∧
    (l.foldl (fun s id => s.joinBacklog id r) s).lastId = s.lastId ∧
    (l.foldl (fun s id => s.joinBacklog id r) s).loaders = s.loaders ∧
    (l.foldl (fun s id => s.joinBacklog id r) s).shipLog = s.shipLog ∧
    (l.foldl (fun s id => s.joinBacklog id r) s).flags = s.flags ∧ (l.foldl (fun s id => s.joinBacklog id r) s).pins = s.pins ∧
    (l.foldl (fun s id => s.joinBacklog id r) s).clock = s.clock ∧ (l.foldl (fun s id => s.joinBacklog id r) s).wet = s.wet ∧
    (l.foldl (fun s id => s.joinBacklog id r) s).working = s.working ∧
    (l.foldl (fun s id => s.joinBacklog id r) s).stored = s.stored ∧
    (l.foldl (fun s id => s.joinBacklog id r) s).writeList = s.writeList ∧
    (l.foldl (fun s id => s.joinBacklog id r) s).writing = s.writing ∧
    (l.foldl (fun s id => s.joinBacklog id r) s).retained = s.retained := by
  refine ⟨foldl_field (·.pending) _ (fun s a => by simp) _ s, foldl_field (·.supply) _ (fun s a => by simp) _ s, foldl_field (·.cond) _ (fun s a => by simp) _ s, foldl_field (·.cause) _ (fun s a => by simp) _ s, foldl_field (·.strap) _ (fun s a => by simp) _ s, foldl_field (·.ports) _ (fun s a => by simp) _ s, foldl_field (·.packs) _ (fun s a => by simp) _ s, foldl_field (·.stackMap) _ (fun s a => by simp) _ s, foldl_field (·.touches) _ (fun s a => by simp) _ s, foldl_field (·.stocktake) _ (fun s a => by simp) _ s, foldl_field (·.deck) _ (fun s a => by simp) _ s, foldl_field (·.trucks) _ (fun s a => by simp) _ s, foldl_field (·.arrivals) _ (fun s a => by simp) _ s, foldl_field (·.waiting) _ (fun s a => by simp) _ s, foldl_field (·.returns) _ (fun s a => by simp) _ s, foldl_field (·.planQueue) _ (fun s a => by simp) _ s, foldl_field (·.plan) _ (fun s a => by simp) _ s, foldl_field (·.tasks) _ (fun s a => by simp) _ s, foldl_field (·.lastId) _ (fun s a => by simp) _ s, foldl_field (·.loaders) _ (fun s a => by simp) _ s, foldl_field (·.shipLog) _ (fun s a => by simp) _ s, foldl_field (·.flags) _ (fun s a => by simp) _ s, foldl_field (·.pins) _ (fun s a => by simp) _ s, foldl_field (·.clock) _ (fun s a => by simp) _ s, foldl_field (·.wet) _ (fun s a => by simp) _ s, foldl_field (·.working) _ (fun s a => by simp) _ s, foldl_field (·.stored) _ (fun s a => by simp) _ s, foldl_field (·.writeList) _ (fun s a => by simp) _ s, foldl_field (·.writing) _ (fun s a => by simp) _ s, foldl_field (·.retained) _ (fun s a => by simp) _ s⟩

@[simp] theorem State.makeSuspect_frame (id : Nat) :
    (s.makeSuspect id).pending = s.pending ∧ (s.makeSuspect id).supply = s.supply ∧ (s.makeSuspect id).cond = s.cond ∧
    (s.makeSuspect id).cause = s.cause ∧ (s.makeSuspect id).strap = s.strap ∧ (s.makeSuspect id).ports = s.ports ∧
    (s.makeSuspect id).packs = s.packs ∧ (s.makeSuspect id).touches = s.touches ∧ (s.makeSuspect id).stocktake = s.stocktake ∧
    (s.makeSuspect id).deck = s.deck ∧ (s.makeSuspect id).trucks = s.trucks ∧ (s.makeSuspect id).arrivals = s.arrivals ∧
    (s.makeSuspect id).waiting = s.waiting ∧ (s.makeSuspect id).returns = s.returns ∧
    (s.makeSuspect id).planQueue = s.planQueue ∧ (s.makeSuspect id).plan = s.plan ∧ (s.makeSuspect id).tasks = s.tasks ∧
    (s.makeSuspect id).lastId = s.lastId ∧ (s.makeSuspect id).loaders = s.loaders ∧ (s.makeSuspect id).shipLog = s.shipLog ∧
    (s.makeSuspect id).pins = s.pins ∧ (s.makeSuspect id).clock = s.clock ∧ (s.makeSuspect id).wet = s.wet ∧
    (s.makeSuspect id).working = s.working ∧ (s.makeSuspect id).stored = s.stored ∧
    (s.makeSuspect id).writeList = s.writeList ∧ (s.makeSuspect id).writing = s.writing ∧
    (s.makeSuspect id).retained = s.retained := by
  simp only [State.makeSuspect]
  all_goals simp

@[simp] theorem State.returnSurvey_frame (t : Task) (h : Leaving) :
    (s.returnSurvey t h).pending = s.pending ∧ (s.returnSurvey t h).supply = s.supply ∧ (s.returnSurvey t h).cond = s.cond ∧
    (s.returnSurvey t h).cause = s.cause ∧ (s.returnSurvey t h).strap = s.strap ∧ (s.returnSurvey t h).ports = s.ports ∧
    (s.returnSurvey t h).packs = s.packs ∧ (s.returnSurvey t h).stackMap = s.stackMap ∧ (s.returnSurvey t h).touches = s.touches ∧
    (s.returnSurvey t h).stocktake = s.stocktake ∧ (s.returnSurvey t h).deck = s.deck ∧
    (s.returnSurvey t h).trucks = s.trucks ∧ (s.returnSurvey t h).arrivals = s.arrivals ∧
    (s.returnSurvey t h).waiting = s.waiting ∧ (s.returnSurvey t h).returns = s.returns ∧
    (s.returnSurvey t h).planQueue = s.planQueue ∧ (s.returnSurvey t h).plan = s.plan ∧ (s.returnSurvey t h).tasks = s.tasks ∧
    (s.returnSurvey t h).lastId = s.lastId ∧ (s.returnSurvey t h).loaders = s.loaders ∧
    (s.returnSurvey t h).shipLog = s.shipLog ∧ (s.returnSurvey t h).flags = s.flags ∧ (s.returnSurvey t h).pins = s.pins ∧
    (s.returnSurvey t h).clock = s.clock ∧ (s.returnSurvey t h).wet = s.wet ∧ (s.returnSurvey t h).working = s.working ∧
    (s.returnSurvey t h).stored = s.stored ∧ (s.returnSurvey t h).writeList = s.writeList ∧
    (s.returnSurvey t h).writing = s.writing ∧ (s.returnSurvey t h).retained = s.retained := by
  simp only [State.returnSurvey]
  repeat' split
  all_goals simp

@[simp] theorem State.leavePool_frame (t : Task) (h : Leaving) :
    (s.leavePool t h).pending = s.pending ∧ (s.leavePool t h).supply = s.supply ∧ (s.leavePool t h).cond = s.cond ∧
    (s.leavePool t h).cause = s.cause ∧ (s.leavePool t h).strap = s.strap ∧ (s.leavePool t h).ports = s.ports ∧
    (s.leavePool t h).packs = s.packs ∧ (s.leavePool t h).stackMap = s.stackMap ∧ (s.leavePool t h).stocktake = s.stocktake ∧
    (s.leavePool t h).deck = s.deck ∧ (s.leavePool t h).trucks = s.trucks ∧ (s.leavePool t h).arrivals = s.arrivals ∧
    (s.leavePool t h).waiting = s.waiting ∧ (s.leavePool t h).returns = s.returns ∧ (s.leavePool t h).planQueue = s.planQueue ∧
    (s.leavePool t h).plan = s.plan ∧ (s.leavePool t h).lastId = s.lastId ∧ (s.leavePool t h).shipLog = s.shipLog ∧
    (s.leavePool t h).flags = s.flags ∧ (s.leavePool t h).pins = s.pins ∧ (s.leavePool t h).clock = s.clock ∧
    (s.leavePool t h).wet = s.wet ∧ (s.leavePool t h).working = s.working ∧ (s.leavePool t h).stored = s.stored ∧
    (s.leavePool t h).writeList = s.writeList ∧ (s.leavePool t h).writing = s.writing ∧
    (s.leavePool t h).retained = s.retained := by
  simp only [State.leavePool]
  repeat' split
  all_goals simp

@[simp] theorem State.removeTaskOf_frame (i : Nat) :
    (s.removeTaskOf i).pending = s.pending ∧ (s.removeTaskOf i).supply = s.supply ∧ (s.removeTaskOf i).cond = s.cond ∧
    (s.removeTaskOf i).cause = s.cause ∧ (s.removeTaskOf i).strap = s.strap ∧ (s.removeTaskOf i).ports = s.ports ∧
    (s.removeTaskOf i).packs = s.packs ∧ (s.removeTaskOf i).stackMap = s.stackMap ∧ (s.removeTaskOf i).stocktake = s.stocktake ∧
    (s.removeTaskOf i).deck = s.deck ∧ (s.removeTaskOf i).trucks = s.trucks ∧ (s.removeTaskOf i).arrivals = s.arrivals ∧
    (s.removeTaskOf i).waiting = s.waiting ∧ (s.removeTaskOf i).returns = s.returns ∧
    (s.removeTaskOf i).planQueue = s.planQueue ∧ (s.removeTaskOf i).plan = s.plan ∧ (s.removeTaskOf i).lastId = s.lastId ∧
    (s.removeTaskOf i).shipLog = s.shipLog ∧ (s.removeTaskOf i).flags = s.flags ∧ (s.removeTaskOf i).pins = s.pins ∧
    (s.removeTaskOf i).clock = s.clock ∧ (s.removeTaskOf i).wet = s.wet ∧ (s.removeTaskOf i).working = s.working ∧
    (s.removeTaskOf i).stored = s.stored ∧ (s.removeTaskOf i).writeList = s.writeList ∧
    (s.removeTaskOf i).writing = s.writing ∧ (s.removeTaskOf i).retained = s.retained := by
  simp only [State.removeTaskOf]
  repeat' split
  all_goals simp

@[simp] theorem State.feedOne_frame :
    (s.feedOne).pending = s.pending ∧ (s.feedOne).supply = s.supply ∧ (s.feedOne).cond = s.cond ∧ (s.feedOne).cause = s.cause ∧
    (s.feedOne).strap = s.strap ∧ (s.feedOne).ports = s.ports ∧ (s.feedOne).packs = s.packs ∧ (s.feedOne).stackMap = s.stackMap ∧
    (s.feedOne).stocktake = s.stocktake ∧ (s.feedOne).deck = s.deck ∧ (s.feedOne).trucks = s.trucks ∧
    (s.feedOne).arrivals = s.arrivals ∧ (s.feedOne).waiting = s.waiting ∧ (s.feedOne).returns = s.returns ∧
    (s.feedOne).planQueue = s.planQueue ∧ (s.feedOne).plan = s.plan ∧ (s.feedOne).loaders = s.loaders ∧
    (s.feedOne).shipLog = s.shipLog ∧ (s.feedOne).flags = s.flags ∧ (s.feedOne).pins = s.pins ∧ (s.feedOne).clock = s.clock ∧
    (s.feedOne).wet = s.wet ∧ (s.feedOne).working = s.working ∧ (s.feedOne).stored = s.stored ∧
    (s.feedOne).writeList = s.writeList ∧ (s.feedOne).writing = s.writing ∧ (s.feedOne).retained = s.retained := by
  simp only [State.feedOne]
  repeat' split
  all_goals simp

@[simp] theorem State.feed_frame :
    (s.feed).pending = s.pending ∧ (s.feed).supply = s.supply ∧ (s.feed).cond = s.cond ∧ (s.feed).cause = s.cause ∧
    (s.feed).strap = s.strap ∧ (s.feed).ports = s.ports ∧ (s.feed).packs = s.packs ∧ (s.feed).stackMap = s.stackMap ∧
    (s.feed).stocktake = s.stocktake ∧ (s.feed).deck = s.deck ∧ (s.feed).trucks = s.trucks ∧ (s.feed).arrivals = s.arrivals ∧
    (s.feed).waiting = s.waiting ∧ (s.feed).returns = s.returns ∧ (s.feed).planQueue = s.planQueue ∧ (s.feed).plan = s.plan ∧
    (s.feed).loaders = s.loaders ∧ (s.feed).shipLog = s.shipLog ∧ (s.feed).flags = s.flags ∧ (s.feed).pins = s.pins ∧
    (s.feed).clock = s.clock ∧ (s.feed).wet = s.wet ∧ (s.feed).working = s.working ∧ (s.feed).stored = s.stored ∧
    (s.feed).writeList = s.writeList ∧ (s.feed).writing = s.writing ∧ (s.feed).retained = s.retained := by
  refine ⟨repeat_field (·.pending) _ (fun s => by simp) _ s, repeat_field (·.supply) _ (fun s => by simp) _ s, repeat_field (·.cond) _ (fun s => by simp) _ s, repeat_field (·.cause) _ (fun s => by simp) _ s, repeat_field (·.strap) _ (fun s => by simp) _ s, repeat_field (·.ports) _ (fun s => by simp) _ s, repeat_field (·.packs) _ (fun s => by simp) _ s, repeat_field (·.stackMap) _ (fun s => by simp) _ s, repeat_field (·.stocktake) _ (fun s => by simp) _ s, repeat_field (·.deck) _ (fun s => by simp) _ s, repeat_field (·.trucks) _ (fun s => by simp) _ s, repeat_field (·.arrivals) _ (fun s => by simp) _ s, repeat_field (·.waiting) _ (fun s => by simp) _ s, repeat_field (·.returns) _ (fun s => by simp) _ s, repeat_field (·.planQueue) _ (fun s => by simp) _ s, repeat_field (·.plan) _ (fun s => by simp) _ s, repeat_field (·.loaders) _ (fun s => by simp) _ s, repeat_field (·.shipLog) _ (fun s => by simp) _ s, repeat_field (·.flags) _ (fun s => by simp) _ s, repeat_field (·.pins) _ (fun s => by simp) _ s, repeat_field (·.clock) _ (fun s => by simp) _ s, repeat_field (·.wet) _ (fun s => by simp) _ s, repeat_field (·.working) _ (fun s => by simp) _ s, repeat_field (·.stored) _ (fun s => by simp) _ s, repeat_field (·.writeList) _ (fun s => by simp) _ s, repeat_field (·.writing) _ (fun s => by simp) _ s, repeat_field (·.retained) _ (fun s => by simp) _ s⟩

@[simp] theorem State.noteSpace_frame (a : Option Nat) :
    (s.noteSpace a).pending = s.pending ∧ (s.noteSpace a).supply = s.supply ∧ (s.noteSpace a).cond = s.cond ∧
    (s.noteSpace a).cause = s.cause ∧ (s.noteSpace a).strap = s.strap ∧ (s.noteSpace a).ports = s.ports ∧
    (s.noteSpace a).packs = s.packs ∧ (s.noteSpace a).stackMap = s.stackMap ∧ (s.noteSpace a).touches = s.touches ∧
    (s.noteSpace a).backlog = s.backlog ∧ (s.noteSpace a).stocktake = s.stocktake ∧ (s.noteSpace a).deck = s.deck ∧
    (s.noteSpace a).trucks = s.trucks ∧ (s.noteSpace a).arrivals = s.arrivals ∧ (s.noteSpace a).waiting = s.waiting ∧
    (s.noteSpace a).returns = s.returns ∧ (s.noteSpace a).planQueue = s.planQueue ∧ (s.noteSpace a).plan = s.plan ∧
    (s.noteSpace a).tasks = s.tasks ∧ (s.noteSpace a).lastId = s.lastId ∧ (s.noteSpace a).loaders = s.loaders ∧
    (s.noteSpace a).shipLog = s.shipLog ∧ (s.noteSpace a).pins = s.pins ∧ (s.noteSpace a).clock = s.clock ∧
    (s.noteSpace a).wet = s.wet ∧ (s.noteSpace a).working = s.working ∧ (s.noteSpace a).stored = s.stored ∧
    (s.noteSpace a).writeList = s.writeList ∧ (s.noteSpace a).writing = s.writing ∧ (s.noteSpace a).retained = s.retained ∧
    (s.noteSpace a).marks = s.marks := by
  simp only [State.noteSpace]
  repeat' split
  all_goals simp

@[simp] theorem State.addSeeking_frame (k : TaskKind) (p : Nat) (src : Source) (tr : Option Nat) (z : Nat) :
    (s.addSeeking k p src tr z).pending = s.pending ∧ (s.addSeeking k p src tr z).supply = s.supply ∧
    (s.addSeeking k p src tr z).cond = s.cond ∧ (s.addSeeking k p src tr z).cause = s.cause ∧
    (s.addSeeking k p src tr z).strap = s.strap ∧ (s.addSeeking k p src tr z).ports = s.ports ∧
    (s.addSeeking k p src tr z).packs = s.packs ∧ (s.addSeeking k p src tr z).stackMap = s.stackMap ∧
    (s.addSeeking k p src tr z).backlog = s.backlog ∧ (s.addSeeking k p src tr z).stocktake = s.stocktake ∧
    (s.addSeeking k p src tr z).deck = s.deck ∧ (s.addSeeking k p src tr z).trucks = s.trucks ∧
    (s.addSeeking k p src tr z).arrivals = s.arrivals ∧ (s.addSeeking k p src tr z).waiting = s.waiting ∧
    (s.addSeeking k p src tr z).returns = s.returns ∧ (s.addSeeking k p src tr z).planQueue = s.planQueue ∧
    (s.addSeeking k p src tr z).plan = s.plan ∧ (s.addSeeking k p src tr z).loaders = s.loaders ∧
    (s.addSeeking k p src tr z).shipLog = s.shipLog ∧ (s.addSeeking k p src tr z).pins = s.pins ∧
    (s.addSeeking k p src tr z).clock = s.clock ∧ (s.addSeeking k p src tr z).wet = s.wet ∧
    (s.addSeeking k p src tr z).working = s.working ∧ (s.addSeeking k p src tr z).stored = s.stored ∧
    (s.addSeeking k p src tr z).writeList = s.writeList ∧ (s.addSeeking k p src tr z).writing = s.writing ∧
    (s.addSeeking k p src tr z).retained = s.retained ∧ (s.addSeeking k p src tr z).marks = s.marks := by
  simp only [State.addSeeking]
  all_goals simp

@[simp] theorem State.retryTask_frame (id : Nat) :
    (s.retryTask id).pending = s.pending ∧ (s.retryTask id).supply = s.supply ∧ (s.retryTask id).cond = s.cond ∧
    (s.retryTask id).cause = s.cause ∧ (s.retryTask id).strap = s.strap ∧ (s.retryTask id).ports = s.ports ∧
    (s.retryTask id).packs = s.packs ∧ (s.retryTask id).stackMap = s.stackMap ∧ (s.retryTask id).backlog = s.backlog ∧
    (s.retryTask id).stocktake = s.stocktake ∧ (s.retryTask id).deck = s.deck ∧ (s.retryTask id).trucks = s.trucks ∧
    (s.retryTask id).arrivals = s.arrivals ∧ (s.retryTask id).waiting = s.waiting ∧ (s.retryTask id).returns = s.returns ∧
    (s.retryTask id).planQueue = s.planQueue ∧ (s.retryTask id).plan = s.plan ∧ (s.retryTask id).lastId = s.lastId ∧
    (s.retryTask id).loaders = s.loaders ∧ (s.retryTask id).shipLog = s.shipLog ∧ (s.retryTask id).flags = s.flags ∧
    (s.retryTask id).pins = s.pins ∧ (s.retryTask id).clock = s.clock ∧ (s.retryTask id).wet = s.wet ∧
    (s.retryTask id).working = s.working ∧ (s.retryTask id).stored = s.stored ∧ (s.retryTask id).writeList = s.writeList ∧
    (s.retryTask id).writing = s.writing ∧ (s.retryTask id).retained = s.retained ∧ (s.retryTask id).marks = s.marks := by
  simp only [State.retryTask]
  repeat' split
  all_goals simp
@[simp] theorem State.foldl_retryTask_frame (l : List Nat) :
    (l.foldl State.retryTask s).pending = s.pending ∧ (l.foldl State.retryTask s).supply = s.supply ∧
    (l.foldl State.retryTask s).cond = s.cond ∧ (l.foldl State.retryTask s).cause = s.cause ∧
    (l.foldl State.retryTask s).strap = s.strap ∧ (l.foldl State.retryTask s).ports = s.ports ∧
    (l.foldl State.retryTask s).packs = s.packs ∧ (l.foldl State.retryTask s).stackMap = s.stackMap ∧
    (l.foldl State.retryTask s).backlog = s.backlog ∧ (l.foldl State.retryTask s).stocktake = s.stocktake ∧
    (l.foldl State.retryTask s).deck = s.deck ∧ (l.foldl State.retryTask s).trucks = s.trucks ∧
    (l.foldl State.retryTask s).arrivals = s.arrivals ∧ (l.foldl State.retryTask s).waiting = s.waiting ∧
    (l.foldl State.retryTask s).returns = s.returns ∧ (l.foldl State.retryTask s).planQueue = s.planQueue ∧
    (l.foldl State.retryTask s).plan = s.plan ∧ (l.foldl State.retryTask s).lastId = s.lastId ∧
    (l.foldl State.retryTask s).loaders = s.loaders ∧ (l.foldl State.retryTask s).shipLog = s.shipLog ∧
    (l.foldl State.retryTask s).flags = s.flags ∧ (l.foldl State.retryTask s).pins = s.pins ∧
    (l.foldl State.retryTask s).clock = s.clock ∧ (l.foldl State.retryTask s).wet = s.wet ∧
    (l.foldl State.retryTask s).working = s.working ∧ (l.foldl State.retryTask s).stored = s.stored ∧
    (l.foldl State.retryTask s).writeList = s.writeList ∧ (l.foldl State.retryTask s).writing = s.writing ∧
    (l.foldl State.retryTask s).retained = s.retained ∧ (l.foldl State.retryTask s).marks = s.marks := by
  refine ⟨foldl_field (·.pending) _ (fun s a => by simp) _ s, foldl_field (·.supply) _ (fun s a => by simp) _ s, foldl_field (·.cond) _ (fun s a => by simp) _ s, foldl_field (·.cause) _ (fun s a => by simp) _ s, foldl_field (·.strap) _ (fun s a => by simp) _ s, foldl_field (·.ports) _ (fun s a => by simp) _ s, foldl_field (·.packs) _ (fun s a => by simp) _ s, foldl_field (·.stackMap) _ (fun s a => by simp) _ s, foldl_field (·.backlog) _ (fun s a => by simp) _ s, foldl_field (·.stocktake) _ (fun s a => by simp) _ s, foldl_field (·.deck) _ (fun s a => by simp) _ s, foldl_field (·.trucks) _ (fun s a => by simp) _ s, foldl_field (·.arrivals) _ (fun s a => by simp) _ s, foldl_field (·.waiting) _ (fun s a => by simp) _ s, foldl_field (·.returns) _ (fun s a => by simp) _ s, foldl_field (·.planQueue) _ (fun s a => by simp) _ s, foldl_field (·.plan) _ (fun s a => by simp) _ s, foldl_field (·.lastId) _ (fun s a => by simp) _ s, foldl_field (·.loaders) _ (fun s a => by simp) _ s, foldl_field (·.shipLog) _ (fun s a => by simp) _ s, foldl_field (·.flags) _ (fun s a => by simp) _ s, foldl_field (·.pins) _ (fun s a => by simp) _ s, foldl_field (·.clock) _ (fun s a => by simp) _ s, foldl_field (·.wet) _ (fun s a => by simp) _ s, foldl_field (·.working) _ (fun s a => by simp) _ s, foldl_field (·.stored) _ (fun s a => by simp) _ s, foldl_field (·.writeList) _ (fun s a => by simp) _ s, foldl_field (·.writing) _ (fun s a => by simp) _ s, foldl_field (·.retained) _ (fun s a => by simp) _ s, foldl_field (·.marks) _ (fun s a => by simp) _ s⟩

@[simp] theorem State.retry_frame :
    (s.retry).pending = s.pending ∧ (s.retry).supply = s.supply ∧ (s.retry).cond = s.cond ∧ (s.retry).cause = s.cause ∧
    (s.retry).strap = s.strap ∧ (s.retry).ports = s.ports ∧ (s.retry).packs = s.packs ∧ (s.retry).stackMap = s.stackMap ∧
    (s.retry).backlog = s.backlog ∧ (s.retry).stocktake = s.stocktake ∧ (s.retry).deck = s.deck ∧ (s.retry).trucks = s.trucks ∧
    (s.retry).arrivals = s.arrivals ∧ (s.retry).waiting = s.waiting ∧ (s.retry).returns = s.returns ∧
    (s.retry).planQueue = s.planQueue ∧ (s.retry).plan = s.plan ∧ (s.retry).lastId = s.lastId ∧ (s.retry).loaders = s.loaders ∧
    (s.retry).shipLog = s.shipLog ∧ (s.retry).flags = s.flags ∧ (s.retry).pins = s.pins ∧ (s.retry).clock = s.clock ∧
    (s.retry).wet = s.wet ∧ (s.retry).working = s.working ∧ (s.retry).stored = s.stored ∧ (s.retry).writeList = s.writeList ∧
    (s.retry).writing = s.writing ∧ (s.retry).retained = s.retained ∧ (s.retry).marks = s.marks := by
  simp only [State.retry]
  all_goals simp

@[simp] theorem State.resolveAnew_frame (id : Nat) :
    (s.resolveAnew id).pending = s.pending ∧ (s.resolveAnew id).supply = s.supply ∧ (s.resolveAnew id).cond = s.cond ∧
    (s.resolveAnew id).cause = s.cause ∧ (s.resolveAnew id).strap = s.strap ∧ (s.resolveAnew id).ports = s.ports ∧
    (s.resolveAnew id).packs = s.packs ∧ (s.resolveAnew id).stackMap = s.stackMap ∧ (s.resolveAnew id).backlog = s.backlog ∧
    (s.resolveAnew id).stocktake = s.stocktake ∧ (s.resolveAnew id).deck = s.deck ∧ (s.resolveAnew id).trucks = s.trucks ∧
    (s.resolveAnew id).arrivals = s.arrivals ∧ (s.resolveAnew id).waiting = s.waiting ∧
    (s.resolveAnew id).returns = s.returns ∧ (s.resolveAnew id).planQueue = s.planQueue ∧ (s.resolveAnew id).plan = s.plan ∧
    (s.resolveAnew id).lastId = s.lastId ∧ (s.resolveAnew id).loaders = s.loaders ∧ (s.resolveAnew id).shipLog = s.shipLog ∧
    (s.resolveAnew id).pins = s.pins ∧ (s.resolveAnew id).clock = s.clock ∧ (s.resolveAnew id).wet = s.wet ∧
    (s.resolveAnew id).working = s.working ∧ (s.resolveAnew id).stored = s.stored ∧
    (s.resolveAnew id).writeList = s.writeList ∧ (s.resolveAnew id).writing = s.writing ∧
    (s.resolveAnew id).retained = s.retained ∧ (s.resolveAnew id).marks = s.marks := by
  simp only [State.resolveAnew]
  repeat' split
  all_goals simp
@[simp] theorem State.foldl_resolveAnew_frame (l : List Nat) :
    (l.foldl State.resolveAnew s).pending = s.pending ∧ (l.foldl State.resolveAnew s).supply = s.supply ∧
    (l.foldl State.resolveAnew s).cond = s.cond ∧ (l.foldl State.resolveAnew s).cause = s.cause ∧
    (l.foldl State.resolveAnew s).strap = s.strap ∧ (l.foldl State.resolveAnew s).ports = s.ports ∧
    (l.foldl State.resolveAnew s).packs = s.packs ∧ (l.foldl State.resolveAnew s).stackMap = s.stackMap ∧
    (l.foldl State.resolveAnew s).backlog = s.backlog ∧ (l.foldl State.resolveAnew s).stocktake = s.stocktake ∧
    (l.foldl State.resolveAnew s).deck = s.deck ∧ (l.foldl State.resolveAnew s).trucks = s.trucks ∧
    (l.foldl State.resolveAnew s).arrivals = s.arrivals ∧ (l.foldl State.resolveAnew s).waiting = s.waiting ∧
    (l.foldl State.resolveAnew s).returns = s.returns ∧ (l.foldl State.resolveAnew s).planQueue = s.planQueue ∧
    (l.foldl State.resolveAnew s).plan = s.plan ∧ (l.foldl State.resolveAnew s).lastId = s.lastId ∧
    (l.foldl State.resolveAnew s).loaders = s.loaders ∧ (l.foldl State.resolveAnew s).shipLog = s.shipLog ∧
    (l.foldl State.resolveAnew s).pins = s.pins ∧ (l.foldl State.resolveAnew s).clock = s.clock ∧
    (l.foldl State.resolveAnew s).wet = s.wet ∧ (l.foldl State.resolveAnew s).working = s.working ∧
    (l.foldl State.resolveAnew s).stored = s.stored ∧ (l.foldl State.resolveAnew s).writeList = s.writeList ∧
    (l.foldl State.resolveAnew s).writing = s.writing ∧ (l.foldl State.resolveAnew s).retained = s.retained ∧
    (l.foldl State.resolveAnew s).marks = s.marks := by
  refine ⟨foldl_field (·.pending) _ (fun s a => by simp) _ s, foldl_field (·.supply) _ (fun s a => by simp) _ s, foldl_field (·.cond) _ (fun s a => by simp) _ s, foldl_field (·.cause) _ (fun s a => by simp) _ s, foldl_field (·.strap) _ (fun s a => by simp) _ s, foldl_field (·.ports) _ (fun s a => by simp) _ s, foldl_field (·.packs) _ (fun s a => by simp) _ s, foldl_field (·.stackMap) _ (fun s a => by simp) _ s, foldl_field (·.backlog) _ (fun s a => by simp) _ s, foldl_field (·.stocktake) _ (fun s a => by simp) _ s, foldl_field (·.deck) _ (fun s a => by simp) _ s, foldl_field (·.trucks) _ (fun s a => by simp) _ s, foldl_field (·.arrivals) _ (fun s a => by simp) _ s, foldl_field (·.waiting) _ (fun s a => by simp) _ s, foldl_field (·.returns) _ (fun s a => by simp) _ s, foldl_field (·.planQueue) _ (fun s a => by simp) _ s, foldl_field (·.plan) _ (fun s a => by simp) _ s, foldl_field (·.lastId) _ (fun s a => by simp) _ s, foldl_field (·.loaders) _ (fun s a => by simp) _ s, foldl_field (·.shipLog) _ (fun s a => by simp) _ s, foldl_field (·.pins) _ (fun s a => by simp) _ s, foldl_field (·.clock) _ (fun s a => by simp) _ s, foldl_field (·.wet) _ (fun s a => by simp) _ s, foldl_field (·.working) _ (fun s a => by simp) _ s, foldl_field (·.stored) _ (fun s a => by simp) _ s, foldl_field (·.writeList) _ (fun s a => by simp) _ s, foldl_field (·.writing) _ (fun s a => by simp) _ s, foldl_field (·.retained) _ (fun s a => by simp) _ s, foldl_field (·.marks) _ (fun s a => by simp) _ s⟩

@[simp] theorem State.clearBound_frame (k : Nat) :
    (s.clearBound k).pending = s.pending ∧ (s.clearBound k).supply = s.supply ∧ (s.clearBound k).cond = s.cond ∧
    (s.clearBound k).cause = s.cause ∧ (s.clearBound k).strap = s.strap ∧ (s.clearBound k).ports = s.ports ∧
    (s.clearBound k).packs = s.packs ∧ (s.clearBound k).stackMap = s.stackMap ∧ (s.clearBound k).backlog = s.backlog ∧
    (s.clearBound k).stocktake = s.stocktake ∧ (s.clearBound k).deck = s.deck ∧ (s.clearBound k).trucks = s.trucks ∧
    (s.clearBound k).arrivals = s.arrivals ∧ (s.clearBound k).waiting = s.waiting ∧ (s.clearBound k).returns = s.returns ∧
    (s.clearBound k).planQueue = s.planQueue ∧ (s.clearBound k).plan = s.plan ∧ (s.clearBound k).lastId = s.lastId ∧
    (s.clearBound k).loaders = s.loaders ∧ (s.clearBound k).shipLog = s.shipLog ∧ (s.clearBound k).flags = s.flags ∧
    (s.clearBound k).pins = s.pins ∧ (s.clearBound k).clock = s.clock ∧ (s.clearBound k).wet = s.wet ∧
    (s.clearBound k).working = s.working ∧ (s.clearBound k).stored = s.stored ∧ (s.clearBound k).writeList = s.writeList ∧
    (s.clearBound k).writing = s.writing ∧ (s.clearBound k).retained = s.retained := by
  simp only [State.clearBound]
  repeat' split
  all_goals simp

@[simp] theorem State.reResolve_frame (k : Nat) :
    (s.reResolve k).pending = s.pending ∧ (s.reResolve k).supply = s.supply ∧ (s.reResolve k).cond = s.cond ∧
    (s.reResolve k).cause = s.cause ∧ (s.reResolve k).strap = s.strap ∧ (s.reResolve k).ports = s.ports ∧
    (s.reResolve k).packs = s.packs ∧ (s.reResolve k).stackMap = s.stackMap ∧ (s.reResolve k).backlog = s.backlog ∧
    (s.reResolve k).stocktake = s.stocktake ∧ (s.reResolve k).deck = s.deck ∧ (s.reResolve k).trucks = s.trucks ∧
    (s.reResolve k).arrivals = s.arrivals ∧ (s.reResolve k).waiting = s.waiting ∧ (s.reResolve k).returns = s.returns ∧
    (s.reResolve k).planQueue = s.planQueue ∧ (s.reResolve k).plan = s.plan ∧ (s.reResolve k).lastId = s.lastId ∧
    (s.reResolve k).loaders = s.loaders ∧ (s.reResolve k).shipLog = s.shipLog ∧ (s.reResolve k).pins = s.pins ∧
    (s.reResolve k).clock = s.clock ∧ (s.reResolve k).wet = s.wet ∧ (s.reResolve k).working = s.working ∧
    (s.reResolve k).stored = s.stored ∧ (s.reResolve k).writeList = s.writeList ∧ (s.reResolve k).writing = s.writing ∧
    (s.reResolve k).retained = s.retained := by
  simp only [State.reResolve]
  all_goals simp

@[simp] theorem State.relieve_frame (k : Nat) :
    (s.relieve k).pending = s.pending ∧ (s.relieve k).supply = s.supply ∧ (s.relieve k).cond = s.cond ∧
    (s.relieve k).cause = s.cause ∧ (s.relieve k).strap = s.strap ∧ (s.relieve k).ports = s.ports ∧
    (s.relieve k).packs = s.packs ∧ (s.relieve k).stackMap = s.stackMap ∧ (s.relieve k).backlog = s.backlog ∧
    (s.relieve k).stocktake = s.stocktake ∧ (s.relieve k).deck = s.deck ∧ (s.relieve k).trucks = s.trucks ∧
    (s.relieve k).arrivals = s.arrivals ∧ (s.relieve k).waiting = s.waiting ∧ (s.relieve k).returns = s.returns ∧
    (s.relieve k).planQueue = s.planQueue ∧ (s.relieve k).plan = s.plan ∧ (s.relieve k).lastId = s.lastId ∧
    (s.relieve k).loaders = s.loaders ∧ (s.relieve k).shipLog = s.shipLog ∧ (s.relieve k).pins = s.pins ∧
    (s.relieve k).clock = s.clock ∧ (s.relieve k).wet = s.wet ∧ (s.relieve k).working = s.working ∧
    (s.relieve k).stored = s.stored ∧ (s.relieve k).writeList = s.writeList ∧ (s.relieve k).writing = s.writing ∧
    (s.relieve k).retained = s.retained := by
  simp only [State.relieve]
  repeat' split
  all_goals simp

@[simp] theorem State.enqueuePlan_frame (slot : Nat) :
    (s.enqueuePlan slot).pending = s.pending ∧ (s.enqueuePlan slot).supply = s.supply ∧ (s.enqueuePlan slot).cond = s.cond ∧
    (s.enqueuePlan slot).cause = s.cause ∧ (s.enqueuePlan slot).strap = s.strap ∧ (s.enqueuePlan slot).ports = s.ports ∧
    (s.enqueuePlan slot).packs = s.packs ∧ (s.enqueuePlan slot).stackMap = s.stackMap ∧ (s.enqueuePlan slot).touches = s.touches ∧
    (s.enqueuePlan slot).backlog = s.backlog ∧ (s.enqueuePlan slot).stocktake = s.stocktake ∧
    (s.enqueuePlan slot).deck = s.deck ∧ (s.enqueuePlan slot).trucks = s.trucks ∧ (s.enqueuePlan slot).arrivals = s.arrivals ∧
    (s.enqueuePlan slot).waiting = s.waiting ∧ (s.enqueuePlan slot).returns = s.returns ∧ (s.enqueuePlan slot).plan = s.plan ∧
    (s.enqueuePlan slot).tasks = s.tasks ∧ (s.enqueuePlan slot).lastId = s.lastId ∧ (s.enqueuePlan slot).loaders = s.loaders ∧
    (s.enqueuePlan slot).shipLog = s.shipLog ∧ (s.enqueuePlan slot).flags = s.flags ∧ (s.enqueuePlan slot).pins = s.pins ∧
    (s.enqueuePlan slot).clock = s.clock ∧ (s.enqueuePlan slot).wet = s.wet ∧ (s.enqueuePlan slot).working = s.working ∧
    (s.enqueuePlan slot).stored = s.stored ∧ (s.enqueuePlan slot).writeList = s.writeList ∧
    (s.enqueuePlan slot).writing = s.writing ∧ (s.enqueuePlan slot).retained = s.retained := by
  simp only [State.enqueuePlan]
  repeat' split
  all_goals simp

@[simp] theorem State.noteReplan_frame :
    (s.noteReplan).pending = s.pending ∧ (s.noteReplan).supply = s.supply ∧ (s.noteReplan).cond = s.cond ∧
    (s.noteReplan).cause = s.cause ∧ (s.noteReplan).strap = s.strap ∧ (s.noteReplan).ports = s.ports ∧
    (s.noteReplan).packs = s.packs ∧ (s.noteReplan).stackMap = s.stackMap ∧ (s.noteReplan).touches = s.touches ∧
    (s.noteReplan).backlog = s.backlog ∧ (s.noteReplan).stocktake = s.stocktake ∧ (s.noteReplan).deck = s.deck ∧
    (s.noteReplan).trucks = s.trucks ∧ (s.noteReplan).arrivals = s.arrivals ∧ (s.noteReplan).waiting = s.waiting ∧
    (s.noteReplan).returns = s.returns ∧ (s.noteReplan).planQueue = s.planQueue ∧ (s.noteReplan).tasks = s.tasks ∧
    (s.noteReplan).lastId = s.lastId ∧ (s.noteReplan).loaders = s.loaders ∧ (s.noteReplan).shipLog = s.shipLog ∧
    (s.noteReplan).flags = s.flags ∧ (s.noteReplan).pins = s.pins ∧ (s.noteReplan).clock = s.clock ∧
    (s.noteReplan).wet = s.wet ∧ (s.noteReplan).working = s.working ∧ (s.noteReplan).stored = s.stored ∧
    (s.noteReplan).writeList = s.writeList ∧ (s.noteReplan).writing = s.writing ∧ (s.noteReplan).retained = s.retained ∧
    (s.noteReplan).marks = s.marks := by
  simp only [State.noteReplan]
  repeat' split
  all_goals simp

@[simp] theorem State.requestReplan_frame (slot : Nat) :
    (s.requestReplan slot).pending = s.pending ∧ (s.requestReplan slot).supply = s.supply ∧
    (s.requestReplan slot).cond = s.cond ∧ (s.requestReplan slot).cause = s.cause ∧ (s.requestReplan slot).strap = s.strap ∧
    (s.requestReplan slot).ports = s.ports ∧ (s.requestReplan slot).packs = s.packs ∧
    (s.requestReplan slot).stackMap = s.stackMap ∧ (s.requestReplan slot).touches = s.touches ∧
    (s.requestReplan slot).backlog = s.backlog ∧ (s.requestReplan slot).stocktake = s.stocktake ∧
    (s.requestReplan slot).deck = s.deck ∧ (s.requestReplan slot).trucks = s.trucks ∧
    (s.requestReplan slot).arrivals = s.arrivals ∧ (s.requestReplan slot).waiting = s.waiting ∧
    (s.requestReplan slot).returns = s.returns ∧ (s.requestReplan slot).tasks = s.tasks ∧
    (s.requestReplan slot).lastId = s.lastId ∧ (s.requestReplan slot).loaders = s.loaders ∧
    (s.requestReplan slot).shipLog = s.shipLog ∧ (s.requestReplan slot).flags = s.flags ∧
    (s.requestReplan slot).pins = s.pins ∧ (s.requestReplan slot).clock = s.clock ∧ (s.requestReplan slot).wet = s.wet ∧
    (s.requestReplan slot).working = s.working ∧ (s.requestReplan slot).stored = s.stored ∧
    (s.requestReplan slot).writeList = s.writeList ∧ (s.requestReplan slot).writing = s.writing ∧
    (s.requestReplan slot).retained = s.retained := by
  simp only [State.requestReplan]
  repeat' split
  all_goals simp
@[simp] theorem State.foldl_requestReplan_frame (l : List Nat) :
    (l.foldl State.requestReplan s).pending = s.pending ∧ (l.foldl State.requestReplan s).supply = s.supply ∧
    (l.foldl State.requestReplan s).cond = s.cond ∧ (l.foldl State.requestReplan s).cause = s.cause ∧
    (l.foldl State.requestReplan s).strap = s.strap ∧ (l.foldl State.requestReplan s).ports = s.ports ∧
    (l.foldl State.requestReplan s).packs = s.packs ∧ (l.foldl State.requestReplan s).stackMap = s.stackMap ∧
    (l.foldl State.requestReplan s).touches = s.touches ∧ (l.foldl State.requestReplan s).backlog = s.backlog ∧
    (l.foldl State.requestReplan s).stocktake = s.stocktake ∧ (l.foldl State.requestReplan s).deck = s.deck ∧
    (l.foldl State.requestReplan s).trucks = s.trucks ∧ (l.foldl State.requestReplan s).arrivals = s.arrivals ∧
    (l.foldl State.requestReplan s).waiting = s.waiting ∧ (l.foldl State.requestReplan s).returns = s.returns ∧
    (l.foldl State.requestReplan s).tasks = s.tasks ∧ (l.foldl State.requestReplan s).lastId = s.lastId ∧
    (l.foldl State.requestReplan s).loaders = s.loaders ∧ (l.foldl State.requestReplan s).shipLog = s.shipLog ∧
    (l.foldl State.requestReplan s).flags = s.flags ∧ (l.foldl State.requestReplan s).pins = s.pins ∧
    (l.foldl State.requestReplan s).clock = s.clock ∧ (l.foldl State.requestReplan s).wet = s.wet ∧
    (l.foldl State.requestReplan s).working = s.working ∧ (l.foldl State.requestReplan s).stored = s.stored ∧
    (l.foldl State.requestReplan s).writeList = s.writeList ∧ (l.foldl State.requestReplan s).writing = s.writing ∧
    (l.foldl State.requestReplan s).retained = s.retained := by
  refine ⟨foldl_field (·.pending) _ (fun s a => by simp) _ s, foldl_field (·.supply) _ (fun s a => by simp) _ s, foldl_field (·.cond) _ (fun s a => by simp) _ s, foldl_field (·.cause) _ (fun s a => by simp) _ s, foldl_field (·.strap) _ (fun s a => by simp) _ s, foldl_field (·.ports) _ (fun s a => by simp) _ s, foldl_field (·.packs) _ (fun s a => by simp) _ s, foldl_field (·.stackMap) _ (fun s a => by simp) _ s, foldl_field (·.touches) _ (fun s a => by simp) _ s, foldl_field (·.backlog) _ (fun s a => by simp) _ s, foldl_field (·.stocktake) _ (fun s a => by simp) _ s, foldl_field (·.deck) _ (fun s a => by simp) _ s, foldl_field (·.trucks) _ (fun s a => by simp) _ s, foldl_field (·.arrivals) _ (fun s a => by simp) _ s, foldl_field (·.waiting) _ (fun s a => by simp) _ s, foldl_field (·.returns) _ (fun s a => by simp) _ s, foldl_field (·.tasks) _ (fun s a => by simp) _ s, foldl_field (·.lastId) _ (fun s a => by simp) _ s, foldl_field (·.loaders) _ (fun s a => by simp) _ s, foldl_field (·.shipLog) _ (fun s a => by simp) _ s, foldl_field (·.flags) _ (fun s a => by simp) _ s, foldl_field (·.pins) _ (fun s a => by simp) _ s, foldl_field (·.clock) _ (fun s a => by simp) _ s, foldl_field (·.wet) _ (fun s a => by simp) _ s, foldl_field (·.working) _ (fun s a => by simp) _ s, foldl_field (·.stored) _ (fun s a => by simp) _ s, foldl_field (·.writeList) _ (fun s a => by simp) _ s, foldl_field (·.writing) _ (fun s a => by simp) _ s, foldl_field (·.retained) _ (fun s a => by simp) _ s⟩

@[simp] theorem State.newStock_frame (i : Nat) :
    (s.newStock i).pending = s.pending ∧ (s.newStock i).supply = s.supply ∧ (s.newStock i).cond = s.cond ∧
    (s.newStock i).cause = s.cause ∧ (s.newStock i).strap = s.strap ∧ (s.newStock i).ports = s.ports ∧
    (s.newStock i).packs = s.packs ∧ (s.newStock i).stackMap = s.stackMap ∧ (s.newStock i).touches = s.touches ∧
    (s.newStock i).backlog = s.backlog ∧ (s.newStock i).stocktake = s.stocktake ∧ (s.newStock i).deck = s.deck ∧
    (s.newStock i).trucks = s.trucks ∧ (s.newStock i).arrivals = s.arrivals ∧ (s.newStock i).waiting = s.waiting ∧
    (s.newStock i).returns = s.returns ∧ (s.newStock i).tasks = s.tasks ∧ (s.newStock i).lastId = s.lastId ∧
    (s.newStock i).loaders = s.loaders ∧ (s.newStock i).shipLog = s.shipLog ∧ (s.newStock i).flags = s.flags ∧
    (s.newStock i).pins = s.pins ∧ (s.newStock i).clock = s.clock ∧ (s.newStock i).wet = s.wet ∧
    (s.newStock i).working = s.working ∧ (s.newStock i).stored = s.stored ∧ (s.newStock i).writeList = s.writeList ∧
    (s.newStock i).writing = s.writing ∧ (s.newStock i).retained = s.retained := by
  simp only [State.newStock]
  repeat' split
  all_goals simp

@[simp] theorem State.passOn_frame (i : Nat) :
    (s.passOn i).pending = s.pending ∧ (s.passOn i).supply = s.supply ∧ (s.passOn i).cond = s.cond ∧
    (s.passOn i).cause = s.cause ∧ (s.passOn i).strap = s.strap ∧ (s.passOn i).ports = s.ports ∧ (s.passOn i).packs = s.packs ∧
    (s.passOn i).stackMap = s.stackMap ∧ (s.passOn i).touches = s.touches ∧ (s.passOn i).backlog = s.backlog ∧
    (s.passOn i).stocktake = s.stocktake ∧ (s.passOn i).deck = s.deck ∧ (s.passOn i).trucks = s.trucks ∧
    (s.passOn i).arrivals = s.arrivals ∧ (s.passOn i).waiting = s.waiting ∧ (s.passOn i).returns = s.returns ∧
    (s.passOn i).tasks = s.tasks ∧ (s.passOn i).lastId = s.lastId ∧ (s.passOn i).loaders = s.loaders ∧
    (s.passOn i).shipLog = s.shipLog ∧ (s.passOn i).flags = s.flags ∧ (s.passOn i).pins = s.pins ∧
    (s.passOn i).clock = s.clock ∧ (s.passOn i).wet = s.wet ∧ (s.passOn i).working = s.working ∧
    (s.passOn i).stored = s.stored ∧ (s.passOn i).writeList = s.writeList ∧ (s.passOn i).writing = s.writing ∧
    (s.passOn i).retained = s.retained := by
  simp only [State.passOn]
  repeat' split
  all_goals simp
@[simp] theorem State.foldl_passOn_frame (l : List Nat) :
    (l.foldl State.passOn s).pending = s.pending ∧ (l.foldl State.passOn s).supply = s.supply ∧
    (l.foldl State.passOn s).cond = s.cond ∧ (l.foldl State.passOn s).cause = s.cause ∧
    (l.foldl State.passOn s).strap = s.strap ∧ (l.foldl State.passOn s).ports = s.ports ∧
    (l.foldl State.passOn s).packs = s.packs ∧ (l.foldl State.passOn s).stackMap = s.stackMap ∧
    (l.foldl State.passOn s).touches = s.touches ∧ (l.foldl State.passOn s).backlog = s.backlog ∧
    (l.foldl State.passOn s).stocktake = s.stocktake ∧ (l.foldl State.passOn s).deck = s.deck ∧
    (l.foldl State.passOn s).trucks = s.trucks ∧ (l.foldl State.passOn s).arrivals = s.arrivals ∧
    (l.foldl State.passOn s).waiting = s.waiting ∧ (l.foldl State.passOn s).returns = s.returns ∧
    (l.foldl State.passOn s).tasks = s.tasks ∧ (l.foldl State.passOn s).lastId = s.lastId ∧
    (l.foldl State.passOn s).loaders = s.loaders ∧ (l.foldl State.passOn s).shipLog = s.shipLog ∧
    (l.foldl State.passOn s).flags = s.flags ∧ (l.foldl State.passOn s).pins = s.pins ∧
    (l.foldl State.passOn s).clock = s.clock ∧ (l.foldl State.passOn s).wet = s.wet ∧
    (l.foldl State.passOn s).working = s.working ∧ (l.foldl State.passOn s).stored = s.stored ∧
    (l.foldl State.passOn s).writeList = s.writeList ∧ (l.foldl State.passOn s).writing = s.writing ∧
    (l.foldl State.passOn s).retained = s.retained := by
  refine ⟨foldl_field (·.pending) _ (fun s a => by simp) _ s, foldl_field (·.supply) _ (fun s a => by simp) _ s, foldl_field (·.cond) _ (fun s a => by simp) _ s, foldl_field (·.cause) _ (fun s a => by simp) _ s, foldl_field (·.strap) _ (fun s a => by simp) _ s, foldl_field (·.ports) _ (fun s a => by simp) _ s, foldl_field (·.packs) _ (fun s a => by simp) _ s, foldl_field (·.stackMap) _ (fun s a => by simp) _ s, foldl_field (·.touches) _ (fun s a => by simp) _ s, foldl_field (·.backlog) _ (fun s a => by simp) _ s, foldl_field (·.stocktake) _ (fun s a => by simp) _ s, foldl_field (·.deck) _ (fun s a => by simp) _ s, foldl_field (·.trucks) _ (fun s a => by simp) _ s, foldl_field (·.arrivals) _ (fun s a => by simp) _ s, foldl_field (·.waiting) _ (fun s a => by simp) _ s, foldl_field (·.returns) _ (fun s a => by simp) _ s, foldl_field (·.tasks) _ (fun s a => by simp) _ s, foldl_field (·.lastId) _ (fun s a => by simp) _ s, foldl_field (·.loaders) _ (fun s a => by simp) _ s, foldl_field (·.shipLog) _ (fun s a => by simp) _ s, foldl_field (·.flags) _ (fun s a => by simp) _ s, foldl_field (·.pins) _ (fun s a => by simp) _ s, foldl_field (·.clock) _ (fun s a => by simp) _ s, foldl_field (·.wet) _ (fun s a => by simp) _ s, foldl_field (·.working) _ (fun s a => by simp) _ s, foldl_field (·.stored) _ (fun s a => by simp) _ s, foldl_field (·.writeList) _ (fun s a => by simp) _ s, foldl_field (·.writing) _ (fun s a => by simp) _ s, foldl_field (·.retained) _ (fun s a => by simp) _ s⟩

@[simp] theorem State.enterState_frame (slot : Nat) (t : Truck) (n : TruckState) :
    (s.enterState slot t n).pending = s.pending ∧ (s.enterState slot t n).supply = s.supply ∧
    (s.enterState slot t n).cond = s.cond ∧ (s.enterState slot t n).cause = s.cause ∧ (s.enterState slot t n).strap = s.strap ∧
    (s.enterState slot t n).ports = s.ports ∧ (s.enterState slot t n).packs = s.packs ∧
    (s.enterState slot t n).stackMap = s.stackMap ∧ (s.enterState slot t n).touches = s.touches ∧
    (s.enterState slot t n).backlog = s.backlog ∧ (s.enterState slot t n).stocktake = s.stocktake ∧
    (s.enterState slot t n).deck = s.deck ∧ (s.enterState slot t n).arrivals = s.arrivals ∧
    (s.enterState slot t n).waiting = s.waiting ∧ (s.enterState slot t n).returns = s.returns ∧
    (s.enterState slot t n).plan = s.plan ∧ (s.enterState slot t n).tasks = s.tasks ∧
    (s.enterState slot t n).lastId = s.lastId ∧ (s.enterState slot t n).loaders = s.loaders ∧
    (s.enterState slot t n).shipLog = s.shipLog ∧ (s.enterState slot t n).pins = s.pins ∧
    (s.enterState slot t n).clock = s.clock ∧ (s.enterState slot t n).wet = s.wet ∧
    (s.enterState slot t n).working = s.working ∧ (s.enterState slot t n).stored = s.stored ∧
    (s.enterState slot t n).writeList = s.writeList ∧ (s.enterState slot t n).writing = s.writing ∧
    (s.enterState slot t n).retained = s.retained ∧ (s.enterState slot t n).marks = s.marks := by
  simp only [State.enterState]
  repeat' split
  all_goals simp

@[simp] theorem State.evaluate_frame (slot : Nat) :
    (s.evaluate slot).pending = s.pending ∧ (s.evaluate slot).supply = s.supply ∧ (s.evaluate slot).cond = s.cond ∧
    (s.evaluate slot).cause = s.cause ∧ (s.evaluate slot).strap = s.strap ∧ (s.evaluate slot).ports = s.ports ∧
    (s.evaluate slot).packs = s.packs ∧ (s.evaluate slot).stackMap = s.stackMap ∧ (s.evaluate slot).touches = s.touches ∧
    (s.evaluate slot).backlog = s.backlog ∧ (s.evaluate slot).stocktake = s.stocktake ∧ (s.evaluate slot).deck = s.deck ∧
    (s.evaluate slot).arrivals = s.arrivals ∧ (s.evaluate slot).waiting = s.waiting ∧ (s.evaluate slot).returns = s.returns ∧
    (s.evaluate slot).tasks = s.tasks ∧ (s.evaluate slot).lastId = s.lastId ∧ (s.evaluate slot).loaders = s.loaders ∧
    (s.evaluate slot).shipLog = s.shipLog ∧ (s.evaluate slot).pins = s.pins ∧ (s.evaluate slot).clock = s.clock ∧
    (s.evaluate slot).wet = s.wet ∧ (s.evaluate slot).working = s.working ∧ (s.evaluate slot).stored = s.stored ∧
    (s.evaluate slot).writeList = s.writeList ∧ (s.evaluate slot).writing = s.writing ∧
    (s.evaluate slot).retained = s.retained := by
  simp only [State.evaluate]
  repeat' split
  all_goals simp

@[simp] theorem State.evaluateAtCompletion_frame (slot : Nat) :
    (s.evaluateAtCompletion slot).pending = s.pending ∧ (s.evaluateAtCompletion slot).supply = s.supply ∧
    (s.evaluateAtCompletion slot).cond = s.cond ∧ (s.evaluateAtCompletion slot).cause = s.cause ∧
    (s.evaluateAtCompletion slot).strap = s.strap ∧ (s.evaluateAtCompletion slot).ports = s.ports ∧
    (s.evaluateAtCompletion slot).packs = s.packs ∧ (s.evaluateAtCompletion slot).stackMap = s.stackMap ∧
    (s.evaluateAtCompletion slot).touches = s.touches ∧ (s.evaluateAtCompletion slot).backlog = s.backlog ∧
    (s.evaluateAtCompletion slot).stocktake = s.stocktake ∧ (s.evaluateAtCompletion slot).deck = s.deck ∧
    (s.evaluateAtCompletion slot).arrivals = s.arrivals ∧ (s.evaluateAtCompletion slot).waiting = s.waiting ∧
    (s.evaluateAtCompletion slot).returns = s.returns ∧ (s.evaluateAtCompletion slot).plan = s.plan ∧
    (s.evaluateAtCompletion slot).tasks = s.tasks ∧ (s.evaluateAtCompletion slot).lastId = s.lastId ∧
    (s.evaluateAtCompletion slot).loaders = s.loaders ∧ (s.evaluateAtCompletion slot).shipLog = s.shipLog ∧
    (s.evaluateAtCompletion slot).pins = s.pins ∧ (s.evaluateAtCompletion slot).clock = s.clock ∧
    (s.evaluateAtCompletion slot).wet = s.wet ∧ (s.evaluateAtCompletion slot).working = s.working ∧
    (s.evaluateAtCompletion slot).stored = s.stored ∧ (s.evaluateAtCompletion slot).writeList = s.writeList ∧
    (s.evaluateAtCompletion slot).writing = s.writing ∧ (s.evaluateAtCompletion slot).retained = s.retained ∧
    (s.evaluateAtCompletion slot).marks = s.marks := by
  simp only [State.evaluateAtCompletion]
  repeat' split
  all_goals simp

@[simp] theorem State.dropPick_frame (i : Nat) :
    (s.dropPick i).pending = s.pending ∧ (s.dropPick i).supply = s.supply ∧ (s.dropPick i).cond = s.cond ∧
    (s.dropPick i).cause = s.cause ∧ (s.dropPick i).strap = s.strap ∧ (s.dropPick i).ports = s.ports ∧
    (s.dropPick i).packs = s.packs ∧ (s.dropPick i).stackMap = s.stackMap ∧ (s.dropPick i).touches = s.touches ∧
    (s.dropPick i).backlog = s.backlog ∧ (s.dropPick i).stocktake = s.stocktake ∧ (s.dropPick i).deck = s.deck ∧
    (s.dropPick i).trucks = s.trucks ∧ (s.dropPick i).arrivals = s.arrivals ∧ (s.dropPick i).waiting = s.waiting ∧
    (s.dropPick i).returns = s.returns ∧ (s.dropPick i).planQueue = s.planQueue ∧ (s.dropPick i).tasks = s.tasks ∧
    (s.dropPick i).lastId = s.lastId ∧ (s.dropPick i).loaders = s.loaders ∧ (s.dropPick i).shipLog = s.shipLog ∧
    (s.dropPick i).flags = s.flags ∧ (s.dropPick i).pins = s.pins ∧ (s.dropPick i).clock = s.clock ∧
    (s.dropPick i).wet = s.wet ∧ (s.dropPick i).working = s.working ∧ (s.dropPick i).stored = s.stored ∧
    (s.dropPick i).writeList = s.writeList ∧ (s.dropPick i).writing = s.writing ∧ (s.dropPick i).retained = s.retained ∧
    (s.dropPick i).marks = s.marks := by
  simp only [State.dropPick]
  repeat' split
  all_goals simp

@[simp] theorem State.endReservation_frame (i : Nat) :
    (s.endReservation i).pending = s.pending ∧ (s.endReservation i).supply = s.supply ∧ (s.endReservation i).cond = s.cond ∧
    (s.endReservation i).cause = s.cause ∧ (s.endReservation i).strap = s.strap ∧ (s.endReservation i).ports = s.ports ∧
    (s.endReservation i).stackMap = s.stackMap ∧ (s.endReservation i).touches = s.touches ∧
    (s.endReservation i).backlog = s.backlog ∧ (s.endReservation i).stocktake = s.stocktake ∧
    (s.endReservation i).deck = s.deck ∧ (s.endReservation i).arrivals = s.arrivals ∧
    (s.endReservation i).waiting = s.waiting ∧ (s.endReservation i).returns = s.returns ∧
    (s.endReservation i).planQueue = s.planQueue ∧ (s.endReservation i).tasks = s.tasks ∧
    (s.endReservation i).lastId = s.lastId ∧ (s.endReservation i).loaders = s.loaders ∧
    (s.endReservation i).shipLog = s.shipLog ∧ (s.endReservation i).flags = s.flags ∧ (s.endReservation i).pins = s.pins ∧
    (s.endReservation i).clock = s.clock ∧ (s.endReservation i).wet = s.wet ∧ (s.endReservation i).working = s.working ∧
    (s.endReservation i).stored = s.stored ∧ (s.endReservation i).writeList = s.writeList ∧
    (s.endReservation i).writing = s.writing ∧ (s.endReservation i).retained = s.retained := by
  simp only [State.endReservation]
  repeat' split
  all_goals simp

@[simp] theorem State.release_frame (i : Nat) :
    (s.release i).pending = s.pending ∧ (s.release i).supply = s.supply ∧ (s.release i).cond = s.cond ∧
    (s.release i).cause = s.cause ∧ (s.release i).strap = s.strap ∧ (s.release i).ports = s.ports ∧
    (s.release i).stackMap = s.stackMap ∧ (s.release i).touches = s.touches ∧ (s.release i).backlog = s.backlog ∧
    (s.release i).stocktake = s.stocktake ∧ (s.release i).deck = s.deck ∧ (s.release i).arrivals = s.arrivals ∧
    (s.release i).waiting = s.waiting ∧ (s.release i).returns = s.returns ∧ (s.release i).planQueue = s.planQueue ∧
    (s.release i).tasks = s.tasks ∧ (s.release i).lastId = s.lastId ∧ (s.release i).loaders = s.loaders ∧
    (s.release i).shipLog = s.shipLog ∧ (s.release i).flags = s.flags ∧ (s.release i).pins = s.pins ∧
    (s.release i).clock = s.clock ∧ (s.release i).wet = s.wet ∧ (s.release i).working = s.working ∧
    (s.release i).stored = s.stored ∧ (s.release i).writeList = s.writeList ∧ (s.release i).writing = s.writing ∧
    (s.release i).retained = s.retained := by
  simp only [State.release]
  all_goals simp
@[simp] theorem State.foldl_release_frame (l : List Nat) :
    (l.foldl State.release s).pending = s.pending ∧ (l.foldl State.release s).supply = s.supply ∧
    (l.foldl State.release s).cond = s.cond ∧ (l.foldl State.release s).cause = s.cause ∧
    (l.foldl State.release s).strap = s.strap ∧ (l.foldl State.release s).ports = s.ports ∧
    (l.foldl State.release s).stackMap = s.stackMap ∧ (l.foldl State.release s).touches = s.touches ∧
    (l.foldl State.release s).backlog = s.backlog ∧ (l.foldl State.release s).stocktake = s.stocktake ∧
    (l.foldl State.release s).deck = s.deck ∧ (l.foldl State.release s).arrivals = s.arrivals ∧
    (l.foldl State.release s).waiting = s.waiting ∧ (l.foldl State.release s).returns = s.returns ∧
    (l.foldl State.release s).planQueue = s.planQueue ∧ (l.foldl State.release s).tasks = s.tasks ∧
    (l.foldl State.release s).lastId = s.lastId ∧ (l.foldl State.release s).loaders = s.loaders ∧
    (l.foldl State.release s).shipLog = s.shipLog ∧ (l.foldl State.release s).flags = s.flags ∧
    (l.foldl State.release s).pins = s.pins ∧ (l.foldl State.release s).clock = s.clock ∧
    (l.foldl State.release s).wet = s.wet ∧ (l.foldl State.release s).working = s.working ∧
    (l.foldl State.release s).stored = s.stored ∧ (l.foldl State.release s).writeList = s.writeList ∧
    (l.foldl State.release s).writing = s.writing ∧ (l.foldl State.release s).retained = s.retained := by
  refine ⟨foldl_field (·.pending) _ (fun s a => by simp) _ s, foldl_field (·.supply) _ (fun s a => by simp) _ s, foldl_field (·.cond) _ (fun s a => by simp) _ s, foldl_field (·.cause) _ (fun s a => by simp) _ s, foldl_field (·.strap) _ (fun s a => by simp) _ s, foldl_field (·.ports) _ (fun s a => by simp) _ s, foldl_field (·.stackMap) _ (fun s a => by simp) _ s, foldl_field (·.touches) _ (fun s a => by simp) _ s, foldl_field (·.backlog) _ (fun s a => by simp) _ s, foldl_field (·.stocktake) _ (fun s a => by simp) _ s, foldl_field (·.deck) _ (fun s a => by simp) _ s, foldl_field (·.arrivals) _ (fun s a => by simp) _ s, foldl_field (·.waiting) _ (fun s a => by simp) _ s, foldl_field (·.returns) _ (fun s a => by simp) _ s, foldl_field (·.planQueue) _ (fun s a => by simp) _ s, foldl_field (·.tasks) _ (fun s a => by simp) _ s, foldl_field (·.lastId) _ (fun s a => by simp) _ s, foldl_field (·.loaders) _ (fun s a => by simp) _ s, foldl_field (·.shipLog) _ (fun s a => by simp) _ s, foldl_field (·.flags) _ (fun s a => by simp) _ s, foldl_field (·.pins) _ (fun s a => by simp) _ s, foldl_field (·.clock) _ (fun s a => by simp) _ s, foldl_field (·.wet) _ (fun s a => by simp) _ s, foldl_field (·.working) _ (fun s a => by simp) _ s, foldl_field (·.stored) _ (fun s a => by simp) _ s, foldl_field (·.writeList) _ (fun s a => by simp) _ s, foldl_field (·.writing) _ (fun s a => by simp) _ s, foldl_field (·.retained) _ (fun s a => by simp) _ s⟩

@[simp] theorem State.lose_frame (i : Nat) :
    (s.lose i).pending = s.pending ∧ (s.lose i).supply = s.supply ∧ (s.lose i).cond = s.cond ∧ (s.lose i).cause = s.cause ∧
    (s.lose i).strap = s.strap ∧ (s.lose i).ports = s.ports ∧ (s.lose i).stackMap = s.stackMap ∧ (s.lose i).touches = s.touches ∧
    (s.lose i).backlog = s.backlog ∧ (s.lose i).stocktake = s.stocktake ∧ (s.lose i).deck = s.deck ∧
    (s.lose i).arrivals = s.arrivals ∧ (s.lose i).waiting = s.waiting ∧ (s.lose i).returns = s.returns ∧
    (s.lose i).tasks = s.tasks ∧ (s.lose i).lastId = s.lastId ∧ (s.lose i).loaders = s.loaders ∧
    (s.lose i).shipLog = s.shipLog ∧ (s.lose i).pins = s.pins ∧ (s.lose i).clock = s.clock ∧ (s.lose i).wet = s.wet ∧
    (s.lose i).working = s.working ∧ (s.lose i).stored = s.stored ∧ (s.lose i).writeList = s.writeList ∧
    (s.lose i).writing = s.writing ∧ (s.lose i).retained = s.retained := by
  simp only [State.lose]
  repeat' split
  all_goals simp

end Sys2Proof.Machine
end

