-- ==== Sys2Proof/Laws/Frame2.lean ====
section
/-! SUPPORT. What each shared operation leaves unchanged: one frame for each, and one lemma for each field of it. -/
namespace Sys2Proof.Machine

variable (s : State)

@[simp] theorem State.joinWaiting_frame (slot : Nat) (t : Truck) :
    (s.joinWaiting slot t).pending = s.pending ∧ (s.joinWaiting slot t).supply = s.supply ∧
    (s.joinWaiting slot t).cond = s.cond ∧ (s.joinWaiting slot t).cause = s.cause ∧ (s.joinWaiting slot t).strap = s.strap ∧
    (s.joinWaiting slot t).ports = s.ports ∧ (s.joinWaiting slot t).packs = s.packs ∧
    (s.joinWaiting slot t).stackMap = s.stackMap ∧ (s.joinWaiting slot t).touches = s.touches ∧
    (s.joinWaiting slot t).backlog = s.backlog ∧ (s.joinWaiting slot t).stocktake = s.stocktake ∧
    (s.joinWaiting slot t).deck = s.deck ∧ (s.joinWaiting slot t).trucks = s.trucks ∧
    (s.joinWaiting slot t).arrivals = s.arrivals ∧ (s.joinWaiting slot t).returns = s.returns ∧
    (s.joinWaiting slot t).planQueue = s.planQueue ∧ (s.joinWaiting slot t).plan = s.plan ∧
    (s.joinWaiting slot t).tasks = s.tasks ∧ (s.joinWaiting slot t).lastId = s.lastId ∧
    (s.joinWaiting slot t).loaders = s.loaders ∧ (s.joinWaiting slot t).shipLog = s.shipLog ∧
    (s.joinWaiting slot t).flags = s.flags ∧ (s.joinWaiting slot t).pins = s.pins ∧ (s.joinWaiting slot t).clock = s.clock ∧
    (s.joinWaiting slot t).wet = s.wet ∧ (s.joinWaiting slot t).working = s.working ∧
    (s.joinWaiting slot t).stored = s.stored ∧ (s.joinWaiting slot t).writeList = s.writeList ∧
    (s.joinWaiting slot t).writing = s.writing ∧ (s.joinWaiting slot t).retained = s.retained := by
  simp only [State.joinWaiting]
  all_goals simp

@[simp] theorem State.leaveWaiting_frame (slot : Nat) :
    (s.leaveWaiting slot).pending = s.pending ∧ (s.leaveWaiting slot).supply = s.supply ∧ (s.leaveWaiting slot).cond = s.cond ∧
    (s.leaveWaiting slot).cause = s.cause ∧ (s.leaveWaiting slot).strap = s.strap ∧ (s.leaveWaiting slot).ports = s.ports ∧
    (s.leaveWaiting slot).packs = s.packs ∧ (s.leaveWaiting slot).stackMap = s.stackMap ∧
    (s.leaveWaiting slot).touches = s.touches ∧ (s.leaveWaiting slot).backlog = s.backlog ∧
    (s.leaveWaiting slot).stocktake = s.stocktake ∧ (s.leaveWaiting slot).deck = s.deck ∧
    (s.leaveWaiting slot).trucks = s.trucks ∧ (s.leaveWaiting slot).arrivals = s.arrivals ∧
    (s.leaveWaiting slot).returns = s.returns ∧ (s.leaveWaiting slot).planQueue = s.planQueue ∧
    (s.leaveWaiting slot).plan = s.plan ∧ (s.leaveWaiting slot).tasks = s.tasks ∧ (s.leaveWaiting slot).lastId = s.lastId ∧
    (s.leaveWaiting slot).loaders = s.loaders ∧ (s.leaveWaiting slot).shipLog = s.shipLog ∧
    (s.leaveWaiting slot).flags = s.flags ∧ (s.leaveWaiting slot).pins = s.pins ∧ (s.leaveWaiting slot).clock = s.clock ∧
    (s.leaveWaiting slot).wet = s.wet ∧ (s.leaveWaiting slot).working = s.working ∧ (s.leaveWaiting slot).stored = s.stored ∧
    (s.leaveWaiting slot).writeList = s.writeList ∧ (s.leaveWaiting slot).writing = s.writing ∧
    (s.leaveWaiting slot).retained = s.retained := by
  simp only [State.leaveWaiting]
  repeat' split
  all_goals simp

@[simp] theorem State.admitOne_frame :
    (s.admitOne).pending = s.pending ∧ (s.admitOne).supply = s.supply ∧ (s.admitOne).cond = s.cond ∧
    (s.admitOne).cause = s.cause ∧ (s.admitOne).strap = s.strap ∧ (s.admitOne).ports = s.ports ∧ (s.admitOne).packs = s.packs ∧
    (s.admitOne).stackMap = s.stackMap ∧ (s.admitOne).touches = s.touches ∧ (s.admitOne).backlog = s.backlog ∧
    (s.admitOne).stocktake = s.stocktake ∧ (s.admitOne).deck = s.deck ∧ (s.admitOne).arrivals = s.arrivals ∧
    (s.admitOne).returns = s.returns ∧ (s.admitOne).plan = s.plan ∧ (s.admitOne).tasks = s.tasks ∧
    (s.admitOne).lastId = s.lastId ∧ (s.admitOne).loaders = s.loaders ∧ (s.admitOne).shipLog = s.shipLog ∧
    (s.admitOne).pins = s.pins ∧ (s.admitOne).clock = s.clock ∧ (s.admitOne).wet = s.wet ∧ (s.admitOne).working = s.working ∧
    (s.admitOne).stored = s.stored ∧ (s.admitOne).writeList = s.writeList ∧ (s.admitOne).writing = s.writing ∧
    (s.admitOne).retained = s.retained := by
  simp only [State.admitOne]
  repeat' split
  all_goals simp

@[simp] theorem State.admission_frame :
    (s.admission).pending = s.pending ∧ (s.admission).supply = s.supply ∧ (s.admission).cond = s.cond ∧
    (s.admission).cause = s.cause ∧ (s.admission).strap = s.strap ∧ (s.admission).ports = s.ports ∧
    (s.admission).packs = s.packs ∧ (s.admission).stackMap = s.stackMap ∧ (s.admission).touches = s.touches ∧
    (s.admission).backlog = s.backlog ∧ (s.admission).stocktake = s.stocktake ∧ (s.admission).deck = s.deck ∧
    (s.admission).arrivals = s.arrivals ∧ (s.admission).returns = s.returns ∧ (s.admission).plan = s.plan ∧
    (s.admission).tasks = s.tasks ∧ (s.admission).lastId = s.lastId ∧ (s.admission).loaders = s.loaders ∧
    (s.admission).shipLog = s.shipLog ∧ (s.admission).pins = s.pins ∧ (s.admission).clock = s.clock ∧
    (s.admission).wet = s.wet ∧ (s.admission).working = s.working ∧ (s.admission).stored = s.stored ∧
    (s.admission).writeList = s.writeList ∧ (s.admission).writing = s.writing ∧ (s.admission).retained = s.retained := by
  refine ⟨repeat_field (·.pending) _ (fun s => by simp) _ s, repeat_field (·.supply) _ (fun s => by simp) _ s, repeat_field (·.cond) _ (fun s => by simp) _ s, repeat_field (·.cause) _ (fun s => by simp) _ s, repeat_field (·.strap) _ (fun s => by simp) _ s, repeat_field (·.ports) _ (fun s => by simp) _ s, repeat_field (·.packs) _ (fun s => by simp) _ s, repeat_field (·.stackMap) _ (fun s => by simp) _ s, repeat_field (·.touches) _ (fun s => by simp) _ s, repeat_field (·.backlog) _ (fun s => by simp) _ s, repeat_field (·.stocktake) _ (fun s => by simp) _ s, repeat_field (·.deck) _ (fun s => by simp) _ s, repeat_field (·.arrivals) _ (fun s => by simp) _ s, repeat_field (·.returns) _ (fun s => by simp) _ s, repeat_field (·.plan) _ (fun s => by simp) _ s, repeat_field (·.tasks) _ (fun s => by simp) _ s, repeat_field (·.lastId) _ (fun s => by simp) _ s, repeat_field (·.loaders) _ (fun s => by simp) _ s, repeat_field (·.shipLog) _ (fun s => by simp) _ s, repeat_field (·.pins) _ (fun s => by simp) _ s, repeat_field (·.clock) _ (fun s => by simp) _ s, repeat_field (·.wet) _ (fun s => by simp) _ s, repeat_field (·.working) _ (fun s => by simp) _ s, repeat_field (·.stored) _ (fun s => by simp) _ s, repeat_field (·.writeList) _ (fun s => by simp) _ s, repeat_field (·.writing) _ (fun s => by simp) _ s, repeat_field (·.retained) _ (fun s => by simp) _ s⟩

@[simp] theorem State.promote_frame (slot : Nat) :
    (s.promote slot).pending = s.pending ∧ (s.promote slot).supply = s.supply ∧ (s.promote slot).cond = s.cond ∧
    (s.promote slot).cause = s.cause ∧ (s.promote slot).strap = s.strap ∧ (s.promote slot).ports = s.ports ∧
    (s.promote slot).packs = s.packs ∧ (s.promote slot).stackMap = s.stackMap ∧ (s.promote slot).touches = s.touches ∧
    (s.promote slot).backlog = s.backlog ∧ (s.promote slot).stocktake = s.stocktake ∧ (s.promote slot).deck = s.deck ∧
    (s.promote slot).arrivals = s.arrivals ∧ (s.promote slot).returns = s.returns ∧ (s.promote slot).planQueue = s.planQueue ∧
    (s.promote slot).plan = s.plan ∧ (s.promote slot).tasks = s.tasks ∧ (s.promote slot).lastId = s.lastId ∧
    (s.promote slot).loaders = s.loaders ∧ (s.promote slot).shipLog = s.shipLog ∧ (s.promote slot).flags = s.flags ∧
    (s.promote slot).pins = s.pins ∧ (s.promote slot).clock = s.clock ∧ (s.promote slot).wet = s.wet ∧
    (s.promote slot).working = s.working ∧ (s.promote slot).stored = s.stored ∧ (s.promote slot).writeList = s.writeList ∧
    (s.promote slot).writing = s.writing ∧ (s.promote slot).retained = s.retained := by
  simp only [State.promote]
  repeat' split
  all_goals simp
@[simp] theorem State.foldl_promote_frame (l : List Nat) :
    (l.foldl State.promote s).pending = s.pending ∧ (l.foldl State.promote s).supply = s.supply ∧
    (l.foldl State.promote s).cond = s.cond ∧ (l.foldl State.promote s).cause = s.cause ∧
    (l.foldl State.promote s).strap = s.strap ∧ (l.foldl State.promote s).ports = s.ports ∧
    (l.foldl State.promote s).packs = s.packs ∧ (l.foldl State.promote s).stackMap = s.stackMap ∧
    (l.foldl State.promote s).touches = s.touches ∧ (l.foldl State.promote s).backlog = s.backlog ∧
    (l.foldl State.promote s).stocktake = s.stocktake ∧ (l.foldl State.promote s).deck = s.deck ∧
    (l.foldl State.promote s).arrivals = s.arrivals ∧ (l.foldl State.promote s).returns = s.returns ∧
    (l.foldl State.promote s).planQueue = s.planQueue ∧ (l.foldl State.promote s).plan = s.plan ∧
    (l.foldl State.promote s).tasks = s.tasks ∧ (l.foldl State.promote s).lastId = s.lastId ∧
    (l.foldl State.promote s).loaders = s.loaders ∧ (l.foldl State.promote s).shipLog = s.shipLog ∧
    (l.foldl State.promote s).flags = s.flags ∧ (l.foldl State.promote s).pins = s.pins ∧
    (l.foldl State.promote s).clock = s.clock ∧ (l.foldl State.promote s).wet = s.wet ∧
    (l.foldl State.promote s).working = s.working ∧ (l.foldl State.promote s).stored = s.stored ∧
    (l.foldl State.promote s).writeList = s.writeList ∧ (l.foldl State.promote s).writing = s.writing ∧
    (l.foldl State.promote s).retained = s.retained := by
  refine ⟨foldl_field (·.pending) _ (fun s a => by simp) _ s, foldl_field (·.supply) _ (fun s a => by simp) _ s, foldl_field (·.cond) _ (fun s a => by simp) _ s, foldl_field (·.cause) _ (fun s a => by simp) _ s, foldl_field (·.strap) _ (fun s a => by simp) _ s, foldl_field (·.ports) _ (fun s a => by simp) _ s, foldl_field (·.packs) _ (fun s a => by simp) _ s, foldl_field (·.stackMap) _ (fun s a => by simp) _ s, foldl_field (·.touches) _ (fun s a => by simp) _ s, foldl_field (·.backlog) _ (fun s a => by simp) _ s, foldl_field (·.stocktake) _ (fun s a => by simp) _ s, foldl_field (·.deck) _ (fun s a => by simp) _ s, foldl_field (·.arrivals) _ (fun s a => by simp) _ s, foldl_field (·.returns) _ (fun s a => by simp) _ s, foldl_field (·.planQueue) _ (fun s a => by simp) _ s, foldl_field (·.plan) _ (fun s a => by simp) _ s, foldl_field (·.tasks) _ (fun s a => by simp) _ s, foldl_field (·.lastId) _ (fun s a => by simp) _ s, foldl_field (·.loaders) _ (fun s a => by simp) _ s, foldl_field (·.shipLog) _ (fun s a => by simp) _ s, foldl_field (·.flags) _ (fun s a => by simp) _ s, foldl_field (·.pins) _ (fun s a => by simp) _ s, foldl_field (·.clock) _ (fun s a => by simp) _ s, foldl_field (·.wet) _ (fun s a => by simp) _ s, foldl_field (·.working) _ (fun s a => by simp) _ s, foldl_field (·.stored) _ (fun s a => by simp) _ s, foldl_field (·.writeList) _ (fun s a => by simp) _ s, foldl_field (·.writing) _ (fun s a => by simp) _ s, foldl_field (·.retained) _ (fun s a => by simp) _ s⟩

@[simp] theorem State.listReturns_frame (slot : Nat) (l : List Nat) :
    (s.listReturns slot l).pending = s.pending ∧ (s.listReturns slot l).supply = s.supply ∧
    (s.listReturns slot l).cond = s.cond ∧ (s.listReturns slot l).cause = s.cause ∧ (s.listReturns slot l).strap = s.strap ∧
    (s.listReturns slot l).ports = s.ports ∧ (s.listReturns slot l).packs = s.packs ∧
    (s.listReturns slot l).stackMap = s.stackMap ∧ (s.listReturns slot l).touches = s.touches ∧
    (s.listReturns slot l).backlog = s.backlog ∧ (s.listReturns slot l).stocktake = s.stocktake ∧
    (s.listReturns slot l).deck = s.deck ∧ (s.listReturns slot l).trucks = s.trucks ∧
    (s.listReturns slot l).arrivals = s.arrivals ∧ (s.listReturns slot l).waiting = s.waiting ∧
    (s.listReturns slot l).planQueue = s.planQueue ∧ (s.listReturns slot l).plan = s.plan ∧
    (s.listReturns slot l).tasks = s.tasks ∧ (s.listReturns slot l).lastId = s.lastId ∧
    (s.listReturns slot l).loaders = s.loaders ∧ (s.listReturns slot l).shipLog = s.shipLog ∧
    (s.listReturns slot l).flags = s.flags ∧ (s.listReturns slot l).pins = s.pins ∧ (s.listReturns slot l).clock = s.clock ∧
    (s.listReturns slot l).wet = s.wet ∧ (s.listReturns slot l).working = s.working ∧
    (s.listReturns slot l).stored = s.stored ∧ (s.listReturns slot l).writeList = s.writeList ∧
    (s.listReturns slot l).writing = s.writing ∧ (s.listReturns slot l).retained = s.retained := by
  simp only [State.listReturns]
  repeat' split
  all_goals simp

@[simp] theorem State.listCancelled_frame (slot : Nat) :
    (s.listCancelled slot).pending = s.pending ∧ (s.listCancelled slot).supply = s.supply ∧
    (s.listCancelled slot).cond = s.cond ∧ (s.listCancelled slot).cause = s.cause ∧ (s.listCancelled slot).strap = s.strap ∧
    (s.listCancelled slot).ports = s.ports ∧ (s.listCancelled slot).packs = s.packs ∧
    (s.listCancelled slot).stackMap = s.stackMap ∧ (s.listCancelled slot).touches = s.touches ∧
    (s.listCancelled slot).backlog = s.backlog ∧ (s.listCancelled slot).stocktake = s.stocktake ∧
    (s.listCancelled slot).deck = s.deck ∧ (s.listCancelled slot).trucks = s.trucks ∧
    (s.listCancelled slot).arrivals = s.arrivals ∧ (s.listCancelled slot).waiting = s.waiting ∧
    (s.listCancelled slot).planQueue = s.planQueue ∧ (s.listCancelled slot).plan = s.plan ∧
    (s.listCancelled slot).tasks = s.tasks ∧ (s.listCancelled slot).lastId = s.lastId ∧
    (s.listCancelled slot).loaders = s.loaders ∧ (s.listCancelled slot).shipLog = s.shipLog ∧
    (s.listCancelled slot).flags = s.flags ∧ (s.listCancelled slot).pins = s.pins ∧ (s.listCancelled slot).clock = s.clock ∧
    (s.listCancelled slot).wet = s.wet ∧ (s.listCancelled slot).working = s.working ∧
    (s.listCancelled slot).stored = s.stored ∧ (s.listCancelled slot).writeList = s.writeList ∧
    (s.listCancelled slot).writing = s.writing ∧ (s.listCancelled slot).retained = s.retained := by
  simp only [State.listCancelled]
  repeat' split
  all_goals simp
@[simp] theorem State.foldl_listCancelled_frame (l : List Nat) :
    (l.foldl State.listCancelled s).pending = s.pending ∧ (l.foldl State.listCancelled s).supply = s.supply ∧
    (l.foldl State.listCancelled s).cond = s.cond ∧ (l.foldl State.listCancelled s).cause = s.cause ∧
    (l.foldl State.listCancelled s).strap = s.strap ∧ (l.foldl State.listCancelled s).ports = s.ports ∧
    (l.foldl State.listCancelled s).packs = s.packs ∧ (l.foldl State.listCancelled s).stackMap = s.stackMap ∧
    (l.foldl State.listCancelled s).touches = s.touches ∧ (l.foldl State.listCancelled s).backlog = s.backlog ∧
    (l.foldl State.listCancelled s).stocktake = s.stocktake ∧ (l.foldl State.listCancelled s).deck = s.deck ∧
    (l.foldl State.listCancelled s).trucks = s.trucks ∧ (l.foldl State.listCancelled s).arrivals = s.arrivals ∧
    (l.foldl State.listCancelled s).waiting = s.waiting ∧ (l.foldl State.listCancelled s).planQueue = s.planQueue ∧
    (l.foldl State.listCancelled s).plan = s.plan ∧ (l.foldl State.listCancelled s).tasks = s.tasks ∧
    (l.foldl State.listCancelled s).lastId = s.lastId ∧ (l.foldl State.listCancelled s).loaders = s.loaders ∧
    (l.foldl State.listCancelled s).shipLog = s.shipLog ∧ (l.foldl State.listCancelled s).flags = s.flags ∧
    (l.foldl State.listCancelled s).pins = s.pins ∧ (l.foldl State.listCancelled s).clock = s.clock ∧
    (l.foldl State.listCancelled s).wet = s.wet ∧ (l.foldl State.listCancelled s).working = s.working ∧
    (l.foldl State.listCancelled s).stored = s.stored ∧ (l.foldl State.listCancelled s).writeList = s.writeList ∧
    (l.foldl State.listCancelled s).writing = s.writing ∧ (l.foldl State.listCancelled s).retained = s.retained := by
  refine ⟨foldl_field (·.pending) _ (fun s a => by simp) _ s, foldl_field (·.supply) _ (fun s a => by simp) _ s, foldl_field (·.cond) _ (fun s a => by simp) _ s, foldl_field (·.cause) _ (fun s a => by simp) _ s, foldl_field (·.strap) _ (fun s a => by simp) _ s, foldl_field (·.ports) _ (fun s a => by simp) _ s, foldl_field (·.packs) _ (fun s a => by simp) _ s, foldl_field (·.stackMap) _ (fun s a => by simp) _ s, foldl_field (·.touches) _ (fun s a => by simp) _ s, foldl_field (·.backlog) _ (fun s a => by simp) _ s, foldl_field (·.stocktake) _ (fun s a => by simp) _ s, foldl_field (·.deck) _ (fun s a => by simp) _ s, foldl_field (·.trucks) _ (fun s a => by simp) _ s, foldl_field (·.arrivals) _ (fun s a => by simp) _ s, foldl_field (·.waiting) _ (fun s a => by simp) _ s, foldl_field (·.planQueue) _ (fun s a => by simp) _ s, foldl_field (·.plan) _ (fun s a => by simp) _ s, foldl_field (·.tasks) _ (fun s a => by simp) _ s, foldl_field (·.lastId) _ (fun s a => by simp) _ s, foldl_field (·.loaders) _ (fun s a => by simp) _ s, foldl_field (·.shipLog) _ (fun s a => by simp) _ s, foldl_field (·.flags) _ (fun s a => by simp) _ s, foldl_field (·.pins) _ (fun s a => by simp) _ s, foldl_field (·.clock) _ (fun s a => by simp) _ s, foldl_field (·.wet) _ (fun s a => by simp) _ s, foldl_field (·.working) _ (fun s a => by simp) _ s, foldl_field (·.stored) _ (fun s a => by simp) _ s, foldl_field (·.writeList) _ (fun s a => by simp) _ s, foldl_field (·.writing) _ (fun s a => by simp) _ s, foldl_field (·.retained) _ (fun s a => by simp) _ s⟩

@[simp] theorem State.serveReturn_frame (r : ReturnEntry) :
    (s.serveReturn r).pending = s.pending ∧ (s.serveReturn r).supply = s.supply ∧ (s.serveReturn r).cond = s.cond ∧
    (s.serveReturn r).cause = s.cause ∧ (s.serveReturn r).strap = s.strap ∧ (s.serveReturn r).ports = s.ports ∧
    (s.serveReturn r).packs = s.packs ∧ (s.serveReturn r).stackMap = s.stackMap ∧ (s.serveReturn r).backlog = s.backlog ∧
    (s.serveReturn r).stocktake = s.stocktake ∧ (s.serveReturn r).deck = s.deck ∧ (s.serveReturn r).trucks = s.trucks ∧
    (s.serveReturn r).arrivals = s.arrivals ∧ (s.serveReturn r).waiting = s.waiting ∧
    (s.serveReturn r).planQueue = s.planQueue ∧ (s.serveReturn r).plan = s.plan ∧ (s.serveReturn r).loaders = s.loaders ∧
    (s.serveReturn r).shipLog = s.shipLog ∧ (s.serveReturn r).pins = s.pins ∧ (s.serveReturn r).clock = s.clock ∧
    (s.serveReturn r).wet = s.wet ∧ (s.serveReturn r).working = s.working ∧ (s.serveReturn r).stored = s.stored ∧
    (s.serveReturn r).writeList = s.writeList ∧ (s.serveReturn r).writing = s.writing ∧
    (s.serveReturn r).retained = s.retained ∧ (s.serveReturn r).marks = s.marks := by
  simp only [State.serveReturn]
  repeat' split
  all_goals simp
@[simp] theorem State.foldl_serveReturn_frame (l : List ReturnEntry) :
    (l.foldl State.serveReturn s).pending = s.pending ∧ (l.foldl State.serveReturn s).supply = s.supply ∧
    (l.foldl State.serveReturn s).cond = s.cond ∧ (l.foldl State.serveReturn s).cause = s.cause ∧
    (l.foldl State.serveReturn s).strap = s.strap ∧ (l.foldl State.serveReturn s).ports = s.ports ∧
    (l.foldl State.serveReturn s).packs = s.packs ∧ (l.foldl State.serveReturn s).stackMap = s.stackMap ∧
    (l.foldl State.serveReturn s).backlog = s.backlog ∧ (l.foldl State.serveReturn s).stocktake = s.stocktake ∧
    (l.foldl State.serveReturn s).deck = s.deck ∧ (l.foldl State.serveReturn s).trucks = s.trucks ∧
    (l.foldl State.serveReturn s).arrivals = s.arrivals ∧ (l.foldl State.serveReturn s).waiting = s.waiting ∧
    (l.foldl State.serveReturn s).planQueue = s.planQueue ∧ (l.foldl State.serveReturn s).plan = s.plan ∧
    (l.foldl State.serveReturn s).loaders = s.loaders ∧ (l.foldl State.serveReturn s).shipLog = s.shipLog ∧
    (l.foldl State.serveReturn s).pins = s.pins ∧ (l.foldl State.serveReturn s).clock = s.clock ∧
    (l.foldl State.serveReturn s).wet = s.wet ∧ (l.foldl State.serveReturn s).working = s.working ∧
    (l.foldl State.serveReturn s).stored = s.stored ∧ (l.foldl State.serveReturn s).writeList = s.writeList ∧
    (l.foldl State.serveReturn s).writing = s.writing ∧ (l.foldl State.serveReturn s).retained = s.retained ∧
    (l.foldl State.serveReturn s).marks = s.marks := by
  refine ⟨foldl_field (·.pending) _ (fun s a => by simp) _ s, foldl_field (·.supply) _ (fun s a => by simp) _ s, foldl_field (·.cond) _ (fun s a => by simp) _ s, foldl_field (·.cause) _ (fun s a => by simp) _ s, foldl_field (·.strap) _ (fun s a => by simp) _ s, foldl_field (·.ports) _ (fun s a => by simp) _ s, foldl_field (·.packs) _ (fun s a => by simp) _ s, foldl_field (·.stackMap) _ (fun s a => by simp) _ s, foldl_field (·.backlog) _ (fun s a => by simp) _ s, foldl_field (·.stocktake) _ (fun s a => by simp) _ s, foldl_field (·.deck) _ (fun s a => by simp) _ s, foldl_field (·.trucks) _ (fun s a => by simp) _ s, foldl_field (·.arrivals) _ (fun s a => by simp) _ s, foldl_field (·.waiting) _ (fun s a => by simp) _ s, foldl_field (·.planQueue) _ (fun s a => by simp) _ s, foldl_field (·.plan) _ (fun s a => by simp) _ s, foldl_field (·.loaders) _ (fun s a => by simp) _ s, foldl_field (·.shipLog) _ (fun s a => by simp) _ s, foldl_field (·.pins) _ (fun s a => by simp) _ s, foldl_field (·.clock) _ (fun s a => by simp) _ s, foldl_field (·.wet) _ (fun s a => by simp) _ s, foldl_field (·.working) _ (fun s a => by simp) _ s, foldl_field (·.stored) _ (fun s a => by simp) _ s, foldl_field (·.writeList) _ (fun s a => by simp) _ s, foldl_field (·.writing) _ (fun s a => by simp) _ s, foldl_field (·.retained) _ (fun s a => by simp) _ s, foldl_field (·.marks) _ (fun s a => by simp) _ s⟩

@[simp] theorem State.serveReturns_frame :
    (s.serveReturns).pending = s.pending ∧ (s.serveReturns).supply = s.supply ∧ (s.serveReturns).cond = s.cond ∧
    (s.serveReturns).cause = s.cause ∧ (s.serveReturns).strap = s.strap ∧ (s.serveReturns).ports = s.ports ∧
    (s.serveReturns).packs = s.packs ∧ (s.serveReturns).stackMap = s.stackMap ∧ (s.serveReturns).backlog = s.backlog ∧
    (s.serveReturns).stocktake = s.stocktake ∧ (s.serveReturns).deck = s.deck ∧ (s.serveReturns).trucks = s.trucks ∧
    (s.serveReturns).arrivals = s.arrivals ∧ (s.serveReturns).waiting = s.waiting ∧ (s.serveReturns).planQueue = s.planQueue ∧
    (s.serveReturns).plan = s.plan ∧ (s.serveReturns).loaders = s.loaders ∧ (s.serveReturns).shipLog = s.shipLog ∧
    (s.serveReturns).pins = s.pins ∧ (s.serveReturns).clock = s.clock ∧ (s.serveReturns).wet = s.wet ∧
    (s.serveReturns).working = s.working ∧ (s.serveReturns).stored = s.stored ∧ (s.serveReturns).writeList = s.writeList ∧
    (s.serveReturns).writing = s.writing ∧ (s.serveReturns).retained = s.retained ∧ (s.serveReturns).marks = s.marks := by
  simp only [State.serveReturns]
  all_goals simp

@[simp] theorem State.servePut_frame (i : Nat) :
    (s.servePut i).pending = s.pending ∧ (s.servePut i).supply = s.supply ∧ (s.servePut i).cond = s.cond ∧
    (s.servePut i).cause = s.cause ∧ (s.servePut i).strap = s.strap ∧ (s.servePut i).ports = s.ports ∧
    (s.servePut i).packs = s.packs ∧ (s.servePut i).stackMap = s.stackMap ∧ (s.servePut i).backlog = s.backlog ∧
    (s.servePut i).stocktake = s.stocktake ∧ (s.servePut i).deck = s.deck ∧ (s.servePut i).trucks = s.trucks ∧
    (s.servePut i).arrivals = s.arrivals ∧ (s.servePut i).waiting = s.waiting ∧ (s.servePut i).returns = s.returns ∧
    (s.servePut i).planQueue = s.planQueue ∧ (s.servePut i).plan = s.plan ∧ (s.servePut i).loaders = s.loaders ∧
    (s.servePut i).shipLog = s.shipLog ∧ (s.servePut i).pins = s.pins ∧ (s.servePut i).clock = s.clock ∧
    (s.servePut i).wet = s.wet ∧ (s.servePut i).working = s.working ∧ (s.servePut i).stored = s.stored ∧
    (s.servePut i).writeList = s.writeList ∧ (s.servePut i).writing = s.writing ∧ (s.servePut i).retained = s.retained ∧
    (s.servePut i).marks = s.marks := by
  simp only [State.servePut]
  repeat' split
  all_goals simp
@[simp] theorem State.foldl_servePut_frame (l : List Nat) :
    (l.foldl State.servePut s).pending = s.pending ∧ (l.foldl State.servePut s).supply = s.supply ∧
    (l.foldl State.servePut s).cond = s.cond ∧ (l.foldl State.servePut s).cause = s.cause ∧
    (l.foldl State.servePut s).strap = s.strap ∧ (l.foldl State.servePut s).ports = s.ports ∧
    (l.foldl State.servePut s).packs = s.packs ∧ (l.foldl State.servePut s).stackMap = s.stackMap ∧
    (l.foldl State.servePut s).backlog = s.backlog ∧ (l.foldl State.servePut s).stocktake = s.stocktake ∧
    (l.foldl State.servePut s).deck = s.deck ∧ (l.foldl State.servePut s).trucks = s.trucks ∧
    (l.foldl State.servePut s).arrivals = s.arrivals ∧ (l.foldl State.servePut s).waiting = s.waiting ∧
    (l.foldl State.servePut s).returns = s.returns ∧ (l.foldl State.servePut s).planQueue = s.planQueue ∧
    (l.foldl State.servePut s).plan = s.plan ∧ (l.foldl State.servePut s).loaders = s.loaders ∧
    (l.foldl State.servePut s).shipLog = s.shipLog ∧ (l.foldl State.servePut s).pins = s.pins ∧
    (l.foldl State.servePut s).clock = s.clock ∧ (l.foldl State.servePut s).wet = s.wet ∧
    (l.foldl State.servePut s).working = s.working ∧ (l.foldl State.servePut s).stored = s.stored ∧
    (l.foldl State.servePut s).writeList = s.writeList ∧ (l.foldl State.servePut s).writing = s.writing ∧
    (l.foldl State.servePut s).retained = s.retained ∧ (l.foldl State.servePut s).marks = s.marks := by
  refine ⟨foldl_field (·.pending) _ (fun s a => by simp) _ s, foldl_field (·.supply) _ (fun s a => by simp) _ s, foldl_field (·.cond) _ (fun s a => by simp) _ s, foldl_field (·.cause) _ (fun s a => by simp) _ s, foldl_field (·.strap) _ (fun s a => by simp) _ s, foldl_field (·.ports) _ (fun s a => by simp) _ s, foldl_field (·.packs) _ (fun s a => by simp) _ s, foldl_field (·.stackMap) _ (fun s a => by simp) _ s, foldl_field (·.backlog) _ (fun s a => by simp) _ s, foldl_field (·.stocktake) _ (fun s a => by simp) _ s, foldl_field (·.deck) _ (fun s a => by simp) _ s, foldl_field (·.trucks) _ (fun s a => by simp) _ s, foldl_field (·.arrivals) _ (fun s a => by simp) _ s, foldl_field (·.waiting) _ (fun s a => by simp) _ s, foldl_field (·.returns) _ (fun s a => by simp) _ s, foldl_field (·.planQueue) _ (fun s a => by simp) _ s, foldl_field (·.plan) _ (fun s a => by simp) _ s, foldl_field (·.loaders) _ (fun s a => by simp) _ s, foldl_field (·.shipLog) _ (fun s a => by simp) _ s, foldl_field (·.pins) _ (fun s a => by simp) _ s, foldl_field (·.clock) _ (fun s a => by simp) _ s, foldl_field (·.wet) _ (fun s a => by simp) _ s, foldl_field (·.working) _ (fun s a => by simp) _ s, foldl_field (·.stored) _ (fun s a => by simp) _ s, foldl_field (·.writeList) _ (fun s a => by simp) _ s, foldl_field (·.writing) _ (fun s a => by simp) _ s, foldl_field (·.retained) _ (fun s a => by simp) _ s, foldl_field (·.marks) _ (fun s a => by simp) _ s⟩

@[simp] theorem State.servePuts_frame :
    (s.servePuts).pending = s.pending ∧ (s.servePuts).supply = s.supply ∧ (s.servePuts).cond = s.cond ∧
    (s.servePuts).cause = s.cause ∧ (s.servePuts).strap = s.strap ∧ (s.servePuts).ports = s.ports ∧
    (s.servePuts).packs = s.packs ∧ (s.servePuts).stackMap = s.stackMap ∧ (s.servePuts).backlog = s.backlog ∧
    (s.servePuts).stocktake = s.stocktake ∧ (s.servePuts).deck = s.deck ∧ (s.servePuts).trucks = s.trucks ∧
    (s.servePuts).arrivals = s.arrivals ∧ (s.servePuts).waiting = s.waiting ∧ (s.servePuts).returns = s.returns ∧
    (s.servePuts).planQueue = s.planQueue ∧ (s.servePuts).plan = s.plan ∧ (s.servePuts).loaders = s.loaders ∧
    (s.servePuts).shipLog = s.shipLog ∧ (s.servePuts).pins = s.pins ∧ (s.servePuts).clock = s.clock ∧
    (s.servePuts).wet = s.wet ∧ (s.servePuts).working = s.working ∧ (s.servePuts).stored = s.stored ∧
    (s.servePuts).writeList = s.writeList ∧ (s.servePuts).writing = s.writing ∧ (s.servePuts).retained = s.retained ∧
    (s.servePuts).marks = s.marks := by
  simp only [State.servePuts]
  all_goals simp

@[simp] theorem State.abortPlan_frame :
    (s.abortPlan).pending = s.pending ∧ (s.abortPlan).supply = s.supply ∧ (s.abortPlan).cond = s.cond ∧
    (s.abortPlan).cause = s.cause ∧ (s.abortPlan).strap = s.strap ∧ (s.abortPlan).ports = s.ports ∧
    (s.abortPlan).stackMap = s.stackMap ∧ (s.abortPlan).touches = s.touches ∧ (s.abortPlan).backlog = s.backlog ∧
    (s.abortPlan).stocktake = s.stocktake ∧ (s.abortPlan).deck = s.deck ∧ (s.abortPlan).arrivals = s.arrivals ∧
    (s.abortPlan).waiting = s.waiting ∧ (s.abortPlan).returns = s.returns ∧ (s.abortPlan).planQueue = s.planQueue ∧
    (s.abortPlan).tasks = s.tasks ∧ (s.abortPlan).lastId = s.lastId ∧ (s.abortPlan).loaders = s.loaders ∧
    (s.abortPlan).shipLog = s.shipLog ∧ (s.abortPlan).flags = s.flags ∧ (s.abortPlan).pins = s.pins ∧
    (s.abortPlan).clock = s.clock ∧ (s.abortPlan).wet = s.wet ∧ (s.abortPlan).working = s.working ∧
    (s.abortPlan).stored = s.stored ∧ (s.abortPlan).writeList = s.writeList ∧ (s.abortPlan).writing = s.writing ∧
    (s.abortPlan).retained = s.retained := by
  simp only [State.abortPlan]
  repeat' split
  all_goals simp

@[simp] theorem State.freeSlot_frame (slot : Nat) :
    (s.freeSlot slot).pending = s.pending ∧ (s.freeSlot slot).supply = s.supply ∧ (s.freeSlot slot).cond = s.cond ∧
    (s.freeSlot slot).cause = s.cause ∧ (s.freeSlot slot).strap = s.strap ∧ (s.freeSlot slot).ports = s.ports ∧
    (s.freeSlot slot).stackMap = s.stackMap ∧ (s.freeSlot slot).touches = s.touches ∧ (s.freeSlot slot).backlog = s.backlog ∧
    (s.freeSlot slot).stocktake = s.stocktake ∧ (s.freeSlot slot).deck = s.deck ∧ (s.freeSlot slot).arrivals = s.arrivals ∧
    (s.freeSlot slot).lastId = s.lastId ∧ (s.freeSlot slot).loaders = s.loaders ∧ (s.freeSlot slot).shipLog = s.shipLog ∧
    (s.freeSlot slot).flags = s.flags ∧ (s.freeSlot slot).pins = s.pins ∧ (s.freeSlot slot).clock = s.clock ∧
    (s.freeSlot slot).wet = s.wet ∧ (s.freeSlot slot).working = s.working ∧ (s.freeSlot slot).stored = s.stored ∧
    (s.freeSlot slot).writeList = s.writeList ∧ (s.freeSlot slot).writing = s.writing ∧
    (s.freeSlot slot).retained = s.retained := by
  simp only [State.freeSlot]
  repeat' split
  all_goals simp

@[simp] theorem State.completeCancel_frame (slot : Nat) :
    (s.completeCancel slot).pending = s.pending ∧ (s.completeCancel slot).supply = s.supply ∧
    (s.completeCancel slot).cond = s.cond ∧ (s.completeCancel slot).cause = s.cause ∧ (s.completeCancel slot).strap = s.strap ∧
    (s.completeCancel slot).ports = s.ports ∧ (s.completeCancel slot).stackMap = s.stackMap ∧
    (s.completeCancel slot).touches = s.touches ∧ (s.completeCancel slot).backlog = s.backlog ∧
    (s.completeCancel slot).stocktake = s.stocktake ∧ (s.completeCancel slot).deck = s.deck ∧
    (s.completeCancel slot).arrivals = s.arrivals ∧ (s.completeCancel slot).lastId = s.lastId ∧
    (s.completeCancel slot).loaders = s.loaders ∧ (s.completeCancel slot).shipLog = s.shipLog ∧
    (s.completeCancel slot).flags = s.flags ∧ (s.completeCancel slot).pins = s.pins ∧ (s.completeCancel slot).clock = s.clock ∧
    (s.completeCancel slot).wet = s.wet ∧ (s.completeCancel slot).working = s.working ∧
    (s.completeCancel slot).stored = s.stored ∧ (s.completeCancel slot).writeList = s.writeList ∧
    (s.completeCancel slot).writing = s.writing ∧ (s.completeCancel slot).retained = s.retained := by
  simp only [State.completeCancel]
  repeat' split
  all_goals simp
@[simp] theorem State.foldl_completeCancel_frame (l : List Nat) :
    (l.foldl State.completeCancel s).pending = s.pending ∧ (l.foldl State.completeCancel s).supply = s.supply ∧
    (l.foldl State.completeCancel s).cond = s.cond ∧ (l.foldl State.completeCancel s).cause = s.cause ∧
    (l.foldl State.completeCancel s).strap = s.strap ∧ (l.foldl State.completeCancel s).ports = s.ports ∧
    (l.foldl State.completeCancel s).stackMap = s.stackMap ∧ (l.foldl State.completeCancel s).touches = s.touches ∧
    (l.foldl State.completeCancel s).backlog = s.backlog ∧ (l.foldl State.completeCancel s).stocktake = s.stocktake ∧
    (l.foldl State.completeCancel s).deck = s.deck ∧ (l.foldl State.completeCancel s).arrivals = s.arrivals ∧
    (l.foldl State.completeCancel s).lastId = s.lastId ∧ (l.foldl State.completeCancel s).loaders = s.loaders ∧
    (l.foldl State.completeCancel s).shipLog = s.shipLog ∧ (l.foldl State.completeCancel s).flags = s.flags ∧
    (l.foldl State.completeCancel s).pins = s.pins ∧ (l.foldl State.completeCancel s).clock = s.clock ∧
    (l.foldl State.completeCancel s).wet = s.wet ∧ (l.foldl State.completeCancel s).working = s.working ∧
    (l.foldl State.completeCancel s).stored = s.stored ∧ (l.foldl State.completeCancel s).writeList = s.writeList ∧
    (l.foldl State.completeCancel s).writing = s.writing ∧ (l.foldl State.completeCancel s).retained = s.retained := by
  refine ⟨foldl_field (·.pending) _ (fun s a => by simp) _ s, foldl_field (·.supply) _ (fun s a => by simp) _ s, foldl_field (·.cond) _ (fun s a => by simp) _ s, foldl_field (·.cause) _ (fun s a => by simp) _ s, foldl_field (·.strap) _ (fun s a => by simp) _ s, foldl_field (·.ports) _ (fun s a => by simp) _ s, foldl_field (·.stackMap) _ (fun s a => by simp) _ s, foldl_field (·.touches) _ (fun s a => by simp) _ s, foldl_field (·.backlog) _ (fun s a => by simp) _ s, foldl_field (·.stocktake) _ (fun s a => by simp) _ s, foldl_field (·.deck) _ (fun s a => by simp) _ s, foldl_field (·.arrivals) _ (fun s a => by simp) _ s, foldl_field (·.lastId) _ (fun s a => by simp) _ s, foldl_field (·.loaders) _ (fun s a => by simp) _ s, foldl_field (·.shipLog) _ (fun s a => by simp) _ s, foldl_field (·.flags) _ (fun s a => by simp) _ s, foldl_field (·.pins) _ (fun s a => by simp) _ s, foldl_field (·.clock) _ (fun s a => by simp) _ s, foldl_field (·.wet) _ (fun s a => by simp) _ s, foldl_field (·.working) _ (fun s a => by simp) _ s, foldl_field (·.stored) _ (fun s a => by simp) _ s, foldl_field (·.writeList) _ (fun s a => by simp) _ s, foldl_field (·.writing) _ (fun s a => by simp) _ s, foldl_field (·.retained) _ (fun s a => by simp) _ s⟩

@[simp] theorem State.endUnloading_frame (slot : Nat) :
    (s.endUnloading slot).pending = s.pending ∧ (s.endUnloading slot).supply = s.supply ∧ (s.endUnloading slot).cond = s.cond ∧
    (s.endUnloading slot).cause = s.cause ∧ (s.endUnloading slot).strap = s.strap ∧ (s.endUnloading slot).ports = s.ports ∧
    (s.endUnloading slot).packs = s.packs ∧ (s.endUnloading slot).stackMap = s.stackMap ∧
    (s.endUnloading slot).touches = s.touches ∧ (s.endUnloading slot).backlog = s.backlog ∧
    (s.endUnloading slot).stocktake = s.stocktake ∧ (s.endUnloading slot).deck = s.deck ∧
    (s.endUnloading slot).arrivals = s.arrivals ∧ (s.endUnloading slot).waiting = s.waiting ∧
    (s.endUnloading slot).returns = s.returns ∧ (s.endUnloading slot).plan = s.plan ∧ (s.endUnloading slot).tasks = s.tasks ∧
    (s.endUnloading slot).lastId = s.lastId ∧ (s.endUnloading slot).loaders = s.loaders ∧
    (s.endUnloading slot).shipLog = s.shipLog ∧ (s.endUnloading slot).pins = s.pins ∧ (s.endUnloading slot).clock = s.clock ∧
    (s.endUnloading slot).wet = s.wet ∧ (s.endUnloading slot).working = s.working ∧ (s.endUnloading slot).stored = s.stored ∧
    (s.endUnloading slot).writeList = s.writeList ∧ (s.endUnloading slot).writing = s.writing ∧
    (s.endUnloading slot).retained = s.retained ∧ (s.endUnloading slot).marks = s.marks := by
  simp only [State.endUnloading]
  repeat' split
  all_goals simp
@[simp] theorem State.foldl_endUnloading_frame (l : List Nat) :
    (l.foldl State.endUnloading s).pending = s.pending ∧ (l.foldl State.endUnloading s).supply = s.supply ∧
    (l.foldl State.endUnloading s).cond = s.cond ∧ (l.foldl State.endUnloading s).cause = s.cause ∧
    (l.foldl State.endUnloading s).strap = s.strap ∧ (l.foldl State.endUnloading s).ports = s.ports ∧
    (l.foldl State.endUnloading s).packs = s.packs ∧ (l.foldl State.endUnloading s).stackMap = s.stackMap ∧
    (l.foldl State.endUnloading s).touches = s.touches ∧ (l.foldl State.endUnloading s).backlog = s.backlog ∧
    (l.foldl State.endUnloading s).stocktake = s.stocktake ∧ (l.foldl State.endUnloading s).deck = s.deck ∧
    (l.foldl State.endUnloading s).arrivals = s.arrivals ∧ (l.foldl State.endUnloading s).waiting = s.waiting ∧
    (l.foldl State.endUnloading s).returns = s.returns ∧ (l.foldl State.endUnloading s).plan = s.plan ∧
    (l.foldl State.endUnloading s).tasks = s.tasks ∧ (l.foldl State.endUnloading s).lastId = s.lastId ∧
    (l.foldl State.endUnloading s).loaders = s.loaders ∧ (l.foldl State.endUnloading s).shipLog = s.shipLog ∧
    (l.foldl State.endUnloading s).pins = s.pins ∧ (l.foldl State.endUnloading s).clock = s.clock ∧
    (l.foldl State.endUnloading s).wet = s.wet ∧ (l.foldl State.endUnloading s).working = s.working ∧
    (l.foldl State.endUnloading s).stored = s.stored ∧ (l.foldl State.endUnloading s).writeList = s.writeList ∧
    (l.foldl State.endUnloading s).writing = s.writing ∧ (l.foldl State.endUnloading s).retained = s.retained ∧
    (l.foldl State.endUnloading s).marks = s.marks := by
  refine ⟨foldl_field (·.pending) _ (fun s a => by simp) _ s, foldl_field (·.supply) _ (fun s a => by simp) _ s, foldl_field (·.cond) _ (fun s a => by simp) _ s, foldl_field (·.cause) _ (fun s a => by simp) _ s, foldl_field (·.strap) _ (fun s a => by simp) _ s, foldl_field (·.ports) _ (fun s a => by simp) _ s, foldl_field (·.packs) _ (fun s a => by simp) _ s, foldl_field (·.stackMap) _ (fun s a => by simp) _ s, foldl_field (·.touches) _ (fun s a => by simp) _ s, foldl_field (·.backlog) _ (fun s a => by simp) _ s, foldl_field (·.stocktake) _ (fun s a => by simp) _ s, foldl_field (·.deck) _ (fun s a => by simp) _ s, foldl_field (·.arrivals) _ (fun s a => by simp) _ s, foldl_field (·.waiting) _ (fun s a => by simp) _ s, foldl_field (·.returns) _ (fun s a => by simp) _ s, foldl_field (·.plan) _ (fun s a => by simp) _ s, foldl_field (·.tasks) _ (fun s a => by simp) _ s, foldl_field (·.lastId) _ (fun s a => by simp) _ s, foldl_field (·.loaders) _ (fun s a => by simp) _ s, foldl_field (·.shipLog) _ (fun s a => by simp) _ s, foldl_field (·.pins) _ (fun s a => by simp) _ s, foldl_field (·.clock) _ (fun s a => by simp) _ s, foldl_field (·.wet) _ (fun s a => by simp) _ s, foldl_field (·.working) _ (fun s a => by simp) _ s, foldl_field (·.stored) _ (fun s a => by simp) _ s, foldl_field (·.writeList) _ (fun s a => by simp) _ s, foldl_field (·.writing) _ (fun s a => by simp) _ s, foldl_field (·.retained) _ (fun s a => by simp) _ s, foldl_field (·.marks) _ (fun s a => by simp) _ s⟩

@[simp] theorem State.logShipment_frame (r : Shipment) :
    (s.logShipment r).pending = s.pending ∧ (s.logShipment r).supply = s.supply ∧ (s.logShipment r).cond = s.cond ∧
    (s.logShipment r).cause = s.cause ∧ (s.logShipment r).strap = s.strap ∧ (s.logShipment r).ports = s.ports ∧
    (s.logShipment r).packs = s.packs ∧ (s.logShipment r).stackMap = s.stackMap ∧ (s.logShipment r).touches = s.touches ∧
    (s.logShipment r).backlog = s.backlog ∧ (s.logShipment r).stocktake = s.stocktake ∧ (s.logShipment r).deck = s.deck ∧
    (s.logShipment r).trucks = s.trucks ∧ (s.logShipment r).arrivals = s.arrivals ∧ (s.logShipment r).waiting = s.waiting ∧
    (s.logShipment r).returns = s.returns ∧ (s.logShipment r).planQueue = s.planQueue ∧ (s.logShipment r).plan = s.plan ∧
    (s.logShipment r).tasks = s.tasks ∧ (s.logShipment r).lastId = s.lastId ∧ (s.logShipment r).loaders = s.loaders ∧
    (s.logShipment r).pins = s.pins ∧ (s.logShipment r).clock = s.clock ∧ (s.logShipment r).wet = s.wet ∧
    (s.logShipment r).working = s.working ∧ (s.logShipment r).stored = s.stored ∧ (s.logShipment r).writeList = s.writeList ∧
    (s.logShipment r).writing = s.writing ∧ (s.logShipment r).retained = s.retained ∧ (s.logShipment r).marks = s.marks := by
  simp only [State.logShipment]
  repeat' split
  all_goals simp

@[simp] theorem State.judgeEngine_frame :
    (s.judgeEngine).pending = s.pending ∧ (s.judgeEngine).supply = s.supply ∧ (s.judgeEngine).cond = s.cond ∧
    (s.judgeEngine).cause = s.cause ∧ (s.judgeEngine).strap = s.strap ∧ (s.judgeEngine).ports = s.ports ∧
    (s.judgeEngine).packs = s.packs ∧ (s.judgeEngine).stackMap = s.stackMap ∧ (s.judgeEngine).touches = s.touches ∧
    (s.judgeEngine).backlog = s.backlog ∧ (s.judgeEngine).stocktake = s.stocktake ∧ (s.judgeEngine).deck = s.deck ∧
    (s.judgeEngine).trucks = s.trucks ∧ (s.judgeEngine).arrivals = s.arrivals ∧ (s.judgeEngine).waiting = s.waiting ∧
    (s.judgeEngine).returns = s.returns ∧ (s.judgeEngine).tasks = s.tasks ∧ (s.judgeEngine).lastId = s.lastId ∧
    (s.judgeEngine).loaders = s.loaders ∧ (s.judgeEngine).shipLog = s.shipLog ∧ (s.judgeEngine).flags = s.flags ∧
    (s.judgeEngine).pins = s.pins ∧ (s.judgeEngine).clock = s.clock ∧ (s.judgeEngine).wet = s.wet ∧
    (s.judgeEngine).working = s.working ∧ (s.judgeEngine).stored = s.stored ∧ (s.judgeEngine).writeList = s.writeList ∧
    (s.judgeEngine).writing = s.writing ∧ (s.judgeEngine).retained = s.retained ∧ (s.judgeEngine).marks = s.marks := by
  simp only [State.judgeEngine]
  repeat' split
  all_goals simp

@[simp] theorem State.pick_frame (p : Plan) (n : Nat) (e : Nat × Pack) (k : MatchKind) :
    (s.pick p n e k).pending = s.pending ∧ (s.pick p n e k).supply = s.supply ∧ (s.pick p n e k).cond = s.cond ∧
    (s.pick p n e k).cause = s.cause ∧ (s.pick p n e k).strap = s.strap ∧ (s.pick p n e k).ports = s.ports ∧
    (s.pick p n e k).stackMap = s.stackMap ∧ (s.pick p n e k).touches = s.touches ∧ (s.pick p n e k).backlog = s.backlog ∧
    (s.pick p n e k).stocktake = s.stocktake ∧ (s.pick p n e k).deck = s.deck ∧ (s.pick p n e k).arrivals = s.arrivals ∧
    (s.pick p n e k).waiting = s.waiting ∧ (s.pick p n e k).returns = s.returns ∧ (s.pick p n e k).planQueue = s.planQueue ∧
    (s.pick p n e k).tasks = s.tasks ∧ (s.pick p n e k).lastId = s.lastId ∧ (s.pick p n e k).loaders = s.loaders ∧
    (s.pick p n e k).shipLog = s.shipLog ∧ (s.pick p n e k).flags = s.flags ∧ (s.pick p n e k).pins = s.pins ∧
    (s.pick p n e k).clock = s.clock ∧ (s.pick p n e k).wet = s.wet ∧ (s.pick p n e k).working = s.working ∧
    (s.pick p n e k).stored = s.stored ∧ (s.pick p n e k).writeList = s.writeList ∧ (s.pick p n e k).writing = s.writing ∧
    (s.pick p n e k).retained = s.retained ∧ (s.pick p n e k).marks = s.marks := by
  simp only [State.pick]
  all_goals simp

@[simp] theorem State.addFetch_frame (slot lane st i : Nat) :
    (s.addFetch slot lane st i).pending = s.pending ∧ (s.addFetch slot lane st i).supply = s.supply ∧
    (s.addFetch slot lane st i).cond = s.cond ∧ (s.addFetch slot lane st i).cause = s.cause ∧
    (s.addFetch slot lane st i).strap = s.strap ∧ (s.addFetch slot lane st i).ports = s.ports ∧
    (s.addFetch slot lane st i).packs = s.packs ∧ (s.addFetch slot lane st i).stackMap = s.stackMap ∧
    (s.addFetch slot lane st i).backlog = s.backlog ∧ (s.addFetch slot lane st i).stocktake = s.stocktake ∧
    (s.addFetch slot lane st i).deck = s.deck ∧ (s.addFetch slot lane st i).trucks = s.trucks ∧
    (s.addFetch slot lane st i).arrivals = s.arrivals ∧ (s.addFetch slot lane st i).waiting = s.waiting ∧
    (s.addFetch slot lane st i).returns = s.returns ∧ (s.addFetch slot lane st i).planQueue = s.planQueue ∧
    (s.addFetch slot lane st i).plan = s.plan ∧ (s.addFetch slot lane st i).loaders = s.loaders ∧
    (s.addFetch slot lane st i).shipLog = s.shipLog ∧ (s.addFetch slot lane st i).flags = s.flags ∧
    (s.addFetch slot lane st i).pins = s.pins ∧ (s.addFetch slot lane st i).clock = s.clock ∧
    (s.addFetch slot lane st i).wet = s.wet ∧ (s.addFetch slot lane st i).working = s.working ∧
    (s.addFetch slot lane st i).stored = s.stored ∧ (s.addFetch slot lane st i).writeList = s.writeList ∧
    (s.addFetch slot lane st i).writing = s.writing ∧ (s.addFetch slot lane st i).retained = s.retained ∧
    (s.addFetch slot lane st i).marks = s.marks := by
  simp only [State.addFetch]
  all_goals simp

@[simp] theorem State.walk_frame (ps : List Pick) (slot lane st : Nat) (l : List Nat) :
    (s.walk ps slot lane st l).pending = s.pending ∧ (s.walk ps slot lane st l).supply = s.supply ∧
    (s.walk ps slot lane st l).cond = s.cond ∧ (s.walk ps slot lane st l).cause = s.cause ∧
    (s.walk ps slot lane st l).strap = s.strap ∧ (s.walk ps slot lane st l).ports = s.ports ∧
    (s.walk ps slot lane st l).stackMap = s.stackMap ∧ (s.walk ps slot lane st l).backlog = s.backlog ∧
    (s.walk ps slot lane st l).stocktake = s.stocktake ∧ (s.walk ps slot lane st l).deck = s.deck ∧
    (s.walk ps slot lane st l).arrivals = s.arrivals ∧ (s.walk ps slot lane st l).waiting = s.waiting ∧
    (s.walk ps slot lane st l).returns = s.returns ∧ (s.walk ps slot lane st l).planQueue = s.planQueue ∧
    (s.walk ps slot lane st l).loaders = s.loaders ∧ (s.walk ps slot lane st l).shipLog = s.shipLog ∧
    (s.walk ps slot lane st l).pins = s.pins ∧ (s.walk ps slot lane st l).clock = s.clock ∧
    (s.walk ps slot lane st l).wet = s.wet ∧ (s.walk ps slot lane st l).working = s.working ∧
    (s.walk ps slot lane st l).stored = s.stored ∧ (s.walk ps slot lane st l).writeList = s.writeList ∧
    (s.walk ps slot lane st l).writing = s.writing ∧ (s.walk ps slot lane st l).retained = s.retained := by
  induction l generalizing s with
  | nil => simp [State.walk]
  | cons a l ih =>
    simp only [State.walk]
    repeat' split
    all_goals simp [ih]

@[simp] theorem State.judgeDepth_frame (st : Nat) :
    (s.judgeDepth st).pending = s.pending ∧ (s.judgeDepth st).supply = s.supply ∧ (s.judgeDepth st).cond = s.cond ∧
    (s.judgeDepth st).cause = s.cause ∧ (s.judgeDepth st).strap = s.strap ∧ (s.judgeDepth st).ports = s.ports ∧
    (s.judgeDepth st).stackMap = s.stackMap ∧ (s.judgeDepth st).touches = s.touches ∧ (s.judgeDepth st).backlog = s.backlog ∧
    (s.judgeDepth st).stocktake = s.stocktake ∧ (s.judgeDepth st).deck = s.deck ∧ (s.judgeDepth st).arrivals = s.arrivals ∧
    (s.judgeDepth st).waiting = s.waiting ∧ (s.judgeDepth st).returns = s.returns ∧ (s.judgeDepth st).planQueue = s.planQueue ∧
    (s.judgeDepth st).tasks = s.tasks ∧ (s.judgeDepth st).lastId = s.lastId ∧ (s.judgeDepth st).loaders = s.loaders ∧
    (s.judgeDepth st).shipLog = s.shipLog ∧ (s.judgeDepth st).flags = s.flags ∧ (s.judgeDepth st).pins = s.pins ∧
    (s.judgeDepth st).clock = s.clock ∧ (s.judgeDepth st).wet = s.wet ∧ (s.judgeDepth st).working = s.working ∧
    (s.judgeDepth st).stored = s.stored ∧ (s.judgeDepth st).writeList = s.writeList ∧ (s.judgeDepth st).writing = s.writing ∧
    (s.judgeDepth st).retained = s.retained := by
  simp only [State.judgeDepth]
  all_goals simp

@[simp] theorem State.completeStack_frame (slot lane st : Nat) :
    (State.completeStack slot lane s st).pending = s.pending ∧ (State.completeStack slot lane s st).supply = s.supply ∧
    (State.completeStack slot lane s st).cond = s.cond ∧ (State.completeStack slot lane s st).cause = s.cause ∧
    (State.completeStack slot lane s st).strap = s.strap ∧ (State.completeStack slot lane s st).ports = s.ports ∧
    (State.completeStack slot lane s st).stackMap = s.stackMap ∧ (State.completeStack slot lane s st).backlog = s.backlog ∧
    (State.completeStack slot lane s st).stocktake = s.stocktake ∧ (State.completeStack slot lane s st).deck = s.deck ∧
    (State.completeStack slot lane s st).arrivals = s.arrivals ∧ (State.completeStack slot lane s st).waiting = s.waiting ∧
    (State.completeStack slot lane s st).returns = s.returns ∧ (State.completeStack slot lane s st).planQueue = s.planQueue ∧
    (State.completeStack slot lane s st).loaders = s.loaders ∧ (State.completeStack slot lane s st).shipLog = s.shipLog ∧
    (State.completeStack slot lane s st).pins = s.pins ∧ (State.completeStack slot lane s st).clock = s.clock ∧
    (State.completeStack slot lane s st).wet = s.wet ∧ (State.completeStack slot lane s st).working = s.working ∧
    (State.completeStack slot lane s st).stored = s.stored ∧ (State.completeStack slot lane s st).writeList = s.writeList ∧
    (State.completeStack slot lane s st).writing = s.writing ∧ (State.completeStack slot lane s st).retained = s.retained := by
  simp only [State.completeStack]
  all_goals simp
@[simp] theorem State.foldl_completeStack_frame (slot lane : Nat) (l : List Nat) :
    (l.foldl (State.completeStack slot lane) s).pending = s.pending ∧
    (l.foldl (State.completeStack slot lane) s).supply = s.supply ∧ (l.foldl (State.completeStack slot lane) s).cond = s.cond ∧
    (l.foldl (State.completeStack slot lane) s).cause = s.cause ∧ (l.foldl (State.completeStack slot lane) s).strap = s.strap ∧
    (l.foldl (State.completeStack slot lane) s).ports = s.ports ∧
    (l.foldl (State.completeStack slot lane) s).stackMap = s.stackMap ∧
    (l.foldl (State.completeStack slot lane) s).backlog = s.backlog ∧
    (l.foldl (State.completeStack slot lane) s).stocktake = s.stocktake ∧
    (l.foldl (State.completeStack slot lane) s).deck = s.deck ∧
    (l.foldl (State.completeStack slot lane) s).arrivals = s.arrivals ∧
    (l.foldl (State.completeStack slot lane) s).waiting = s.waiting ∧
    (l.foldl (State.completeStack slot lane) s).returns = s.returns ∧
    (l.foldl (State.completeStack slot lane) s).planQueue = s.planQueue ∧
    (l.foldl (State.completeStack slot lane) s).loaders = s.loaders ∧
    (l.foldl (State.completeStack slot lane) s).shipLog = s.shipLog ∧
    (l.foldl (State.completeStack slot lane) s).pins = s.pins ∧ (l.foldl (State.completeStack slot lane) s).clock = s.clock ∧
    (l.foldl (State.completeStack slot lane) s).wet = s.wet ∧ (l.foldl (State.completeStack slot lane) s).working = s.working ∧
    (l.foldl (State.completeStack slot lane) s).stored = s.stored ∧
    (l.foldl (State.completeStack slot lane) s).writeList = s.writeList ∧
    (l.foldl (State.completeStack slot lane) s).writing = s.writing ∧
    (l.foldl (State.completeStack slot lane) s).retained = s.retained := by
  refine ⟨foldl_field (·.pending) _ (fun s a => by simp) _ s, foldl_field (·.supply) _ (fun s a => by simp) _ s, foldl_field (·.cond) _ (fun s a => by simp) _ s, foldl_field (·.cause) _ (fun s a => by simp) _ s, foldl_field (·.strap) _ (fun s a => by simp) _ s, foldl_field (·.ports) _ (fun s a => by simp) _ s, foldl_field (·.stackMap) _ (fun s a => by simp) _ s, foldl_field (·.backlog) _ (fun s a => by simp) _ s, foldl_field (·.stocktake) _ (fun s a => by simp) _ s, foldl_field (·.deck) _ (fun s a => by simp) _ s, foldl_field (·.arrivals) _ (fun s a => by simp) _ s, foldl_field (·.waiting) _ (fun s a => by simp) _ s, foldl_field (·.returns) _ (fun s a => by simp) _ s, foldl_field (·.planQueue) _ (fun s a => by simp) _ s, foldl_field (·.loaders) _ (fun s a => by simp) _ s, foldl_field (·.shipLog) _ (fun s a => by simp) _ s, foldl_field (·.pins) _ (fun s a => by simp) _ s, foldl_field (·.clock) _ (fun s a => by simp) _ s, foldl_field (·.wet) _ (fun s a => by simp) _ s, foldl_field (·.working) _ (fun s a => by simp) _ s, foldl_field (·.stored) _ (fun s a => by simp) _ s, foldl_field (·.writeList) _ (fun s a => by simp) _ s, foldl_field (·.writing) _ (fun s a => by simp) _ s, foldl_field (·.retained) _ (fun s a => by simp) _ s⟩

@[simp] theorem State.judgeShort_frame (f : TruckState) (slot : Nat) :
    (s.judgeShort f slot).pending = s.pending ∧ (s.judgeShort f slot).supply = s.supply ∧ (s.judgeShort f slot).cond = s.cond ∧
    (s.judgeShort f slot).cause = s.cause ∧ (s.judgeShort f slot).strap = s.strap ∧ (s.judgeShort f slot).ports = s.ports ∧
    (s.judgeShort f slot).packs = s.packs ∧ (s.judgeShort f slot).stackMap = s.stackMap ∧
    (s.judgeShort f slot).touches = s.touches ∧ (s.judgeShort f slot).backlog = s.backlog ∧
    (s.judgeShort f slot).stocktake = s.stocktake ∧ (s.judgeShort f slot).deck = s.deck ∧
    (s.judgeShort f slot).trucks = s.trucks ∧ (s.judgeShort f slot).arrivals = s.arrivals ∧
    (s.judgeShort f slot).waiting = s.waiting ∧ (s.judgeShort f slot).returns = s.returns ∧
    (s.judgeShort f slot).planQueue = s.planQueue ∧ (s.judgeShort f slot).plan = s.plan ∧
    (s.judgeShort f slot).tasks = s.tasks ∧ (s.judgeShort f slot).lastId = s.lastId ∧
    (s.judgeShort f slot).loaders = s.loaders ∧ (s.judgeShort f slot).shipLog = s.shipLog ∧
    (s.judgeShort f slot).pins = s.pins ∧ (s.judgeShort f slot).clock = s.clock ∧ (s.judgeShort f slot).wet = s.wet ∧
    (s.judgeShort f slot).working = s.working ∧ (s.judgeShort f slot).stored = s.stored ∧
    (s.judgeShort f slot).writeList = s.writeList ∧ (s.judgeShort f slot).writing = s.writing ∧
    (s.judgeShort f slot).retained = s.retained ∧ (s.judgeShort f slot).marks = s.marks := by
  simp only [State.judgeShort]
  repeat' split
  all_goals simp

@[simp] theorem State.completePlan_frame (p : Plan) (t : Truck) :
    (s.completePlan p t).pending = s.pending ∧ (s.completePlan p t).supply = s.supply ∧ (s.completePlan p t).cond = s.cond ∧
    (s.completePlan p t).cause = s.cause ∧ (s.completePlan p t).strap = s.strap ∧ (s.completePlan p t).ports = s.ports ∧
    (s.completePlan p t).stackMap = s.stackMap ∧ (s.completePlan p t).backlog = s.backlog ∧
    (s.completePlan p t).stocktake = s.stocktake ∧ (s.completePlan p t).deck = s.deck ∧
    (s.completePlan p t).arrivals = s.arrivals ∧ (s.completePlan p t).waiting = s.waiting ∧
    (s.completePlan p t).returns = s.returns ∧ (s.completePlan p t).loaders = s.loaders ∧
    (s.completePlan p t).shipLog = s.shipLog ∧ (s.completePlan p t).pins = s.pins ∧ (s.completePlan p t).clock = s.clock ∧
    (s.completePlan p t).wet = s.wet ∧ (s.completePlan p t).working = s.working ∧ (s.completePlan p t).stored = s.stored ∧
    (s.completePlan p t).writeList = s.writeList ∧ (s.completePlan p t).writing = s.writing ∧
    (s.completePlan p t).retained = s.retained := by
  simp only [State.completePlan]
  repeat' split
  all_goals simp

@[simp] theorem State.pickStep_frame (p : Plan) (t : Truck) :
    (s.pickStep p t).pending = s.pending ∧ (s.pickStep p t).supply = s.supply ∧ (s.pickStep p t).cond = s.cond ∧
    (s.pickStep p t).cause = s.cause ∧ (s.pickStep p t).strap = s.strap ∧ (s.pickStep p t).ports = s.ports ∧
    (s.pickStep p t).stackMap = s.stackMap ∧ (s.pickStep p t).backlog = s.backlog ∧ (s.pickStep p t).stocktake = s.stocktake ∧
    (s.pickStep p t).deck = s.deck ∧ (s.pickStep p t).arrivals = s.arrivals ∧ (s.pickStep p t).waiting = s.waiting ∧
    (s.pickStep p t).returns = s.returns ∧ (s.pickStep p t).loaders = s.loaders ∧ (s.pickStep p t).shipLog = s.shipLog ∧
    (s.pickStep p t).pins = s.pins ∧ (s.pickStep p t).clock = s.clock ∧ (s.pickStep p t).wet = s.wet ∧
    (s.pickStep p t).working = s.working ∧ (s.pickStep p t).stored = s.stored ∧ (s.pickStep p t).writeList = s.writeList ∧
    (s.pickStep p t).writing = s.writing ∧ (s.pickStep p t).retained = s.retained := by
  simp only [State.pickStep]
  repeat' split
  all_goals simp

@[simp] theorem State.judgeStocktake_frame :
    (s.judgeStocktake).pending = s.pending ∧ (s.judgeStocktake).supply = s.supply ∧ (s.judgeStocktake).cond = s.cond ∧
    (s.judgeStocktake).cause = s.cause ∧ (s.judgeStocktake).strap = s.strap ∧ (s.judgeStocktake).ports = s.ports ∧
    (s.judgeStocktake).packs = s.packs ∧ (s.judgeStocktake).stackMap = s.stackMap ∧ (s.judgeStocktake).touches = s.touches ∧
    (s.judgeStocktake).backlog = s.backlog ∧ (s.judgeStocktake).deck = s.deck ∧ (s.judgeStocktake).trucks = s.trucks ∧
    (s.judgeStocktake).arrivals = s.arrivals ∧ (s.judgeStocktake).waiting = s.waiting ∧
    (s.judgeStocktake).returns = s.returns ∧ (s.judgeStocktake).planQueue = s.planQueue ∧ (s.judgeStocktake).plan = s.plan ∧
    (s.judgeStocktake).tasks = s.tasks ∧ (s.judgeStocktake).lastId = s.lastId ∧ (s.judgeStocktake).loaders = s.loaders ∧
    (s.judgeStocktake).shipLog = s.shipLog ∧ (s.judgeStocktake).pins = s.pins ∧ (s.judgeStocktake).clock = s.clock ∧
    (s.judgeStocktake).wet = s.wet ∧ (s.judgeStocktake).working = s.working ∧ (s.judgeStocktake).stored = s.stored ∧
    (s.judgeStocktake).writeList = s.writeList ∧ (s.judgeStocktake).writing = s.writing ∧
    (s.judgeStocktake).retained = s.retained ∧ (s.judgeStocktake).marks = s.marks := by
  simp only [State.judgeStocktake]
  repeat' split
  all_goals simp

@[simp] theorem State.listAllCancelled_frame :
    (s.listAllCancelled).pending = s.pending ∧ (s.listAllCancelled).supply = s.supply ∧ (s.listAllCancelled).cond = s.cond ∧
    (s.listAllCancelled).cause = s.cause ∧ (s.listAllCancelled).strap = s.strap ∧ (s.listAllCancelled).ports = s.ports ∧
    (s.listAllCancelled).packs = s.packs ∧ (s.listAllCancelled).stackMap = s.stackMap ∧ (s.listAllCancelled).touches = s.touches ∧
    (s.listAllCancelled).backlog = s.backlog ∧ (s.listAllCancelled).stocktake = s.stocktake ∧
    (s.listAllCancelled).deck = s.deck ∧ (s.listAllCancelled).trucks = s.trucks ∧ (s.listAllCancelled).arrivals = s.arrivals ∧
    (s.listAllCancelled).waiting = s.waiting ∧ (s.listAllCancelled).planQueue = s.planQueue ∧
    (s.listAllCancelled).plan = s.plan ∧ (s.listAllCancelled).tasks = s.tasks ∧ (s.listAllCancelled).lastId = s.lastId ∧
    (s.listAllCancelled).loaders = s.loaders ∧ (s.listAllCancelled).shipLog = s.shipLog ∧
    (s.listAllCancelled).flags = s.flags ∧ (s.listAllCancelled).pins = s.pins ∧ (s.listAllCancelled).clock = s.clock ∧
    (s.listAllCancelled).wet = s.wet ∧ (s.listAllCancelled).working = s.working ∧ (s.listAllCancelled).stored = s.stored ∧
    (s.listAllCancelled).writeList = s.writeList ∧ (s.listAllCancelled).writing = s.writing ∧
    (s.listAllCancelled).retained = s.retained := by
  simp only [State.listAllCancelled]
  all_goals simp

@[simp] theorem State.watchTrucks_frame :
    (s.watchTrucks).pending = s.pending ∧ (s.watchTrucks).supply = s.supply ∧ (s.watchTrucks).cond = s.cond ∧
    (s.watchTrucks).cause = s.cause ∧ (s.watchTrucks).strap = s.strap ∧ (s.watchTrucks).ports = s.ports ∧
    (s.watchTrucks).stackMap = s.stackMap ∧ (s.watchTrucks).touches = s.touches ∧ (s.watchTrucks).backlog = s.backlog ∧
    (s.watchTrucks).stocktake = s.stocktake ∧ (s.watchTrucks).deck = s.deck ∧ (s.watchTrucks).arrivals = s.arrivals ∧
    (s.watchTrucks).lastId = s.lastId ∧ (s.watchTrucks).loaders = s.loaders ∧ (s.watchTrucks).shipLog = s.shipLog ∧
    (s.watchTrucks).pins = s.pins ∧ (s.watchTrucks).clock = s.clock ∧ (s.watchTrucks).wet = s.wet ∧
    (s.watchTrucks).working = s.working ∧ (s.watchTrucks).stored = s.stored ∧ (s.watchTrucks).writeList = s.writeList ∧
    (s.watchTrucks).writing = s.writing ∧ (s.watchTrucks).retained = s.retained := by
  simp only [State.watchTrucks]
  all_goals simp

/-- A projection that every stage of the settling keeps is kept by the settling; what simp shows of a stage need not be said. -/
theorem settle_field {β : Type} (g : State → β) (s : State) (h0 : ∀ s : State, g s.clearMarks = g s := by simp)
    (h1 : ∀ s : State, g s.listAllCancelled = g s := by simp) (h2 : ∀ s : State, g s.retry = g s := by simp)
    (h3 : ∀ s : State, g s.serveReturns = g s := by simp) (h4 : ∀ s : State, g s.servePuts = g s := by simp)
    (h5 : ∀ s : State, g s.watchTrucks = g s := by simp) (h6 : ∀ s : State, g s.admission = g s := by simp)
    (h7 : ∀ s : State, g s.judgeGate = g s := by simp) (h8 : ∀ s : State, g s.judgeEngine = g s := by simp)
    (h9 : ∀ s : State, g s.feed = g s := by simp) (h10 : ∀ s : State, g s.judgeStocktake = g s := by simp) :
    g s.settle = g s := by
  have st : ∀ (owed : State → Bool) (f : State → State), (∀ s, g (f s) = g s) → ∀ s : State, g (s.stage owed f) = g s := by
    intro owed f hf s
    unfold State.stage
    split
    · exact hf s
    · rfl
  simp only [State.settle, h0, st _ State.listAllCancelled h1, st _ State.retry h2, st _ State.serveReturns h3,
    st _ State.servePuts h4, st _ State.watchTrucks h5, st _ State.admission h6, st _ State.judgeGate h7,
    st _ State.judgeEngine h8, st _ State.feed h9, st _ State.judgeStocktake h10]

@[simp] theorem State.settle_frame :
    (s.settle).pending = s.pending ∧ (s.settle).supply = s.supply ∧ (s.settle).cond = s.cond ∧ (s.settle).cause = s.cause ∧
    (s.settle).strap = s.strap ∧ (s.settle).ports = s.ports ∧ (s.settle).stackMap = s.stackMap ∧ (s.settle).deck = s.deck ∧
    (s.settle).arrivals = s.arrivals ∧ (s.settle).loaders = s.loaders ∧ (s.settle).shipLog = s.shipLog ∧
    (s.settle).clock = s.clock ∧ (s.settle).wet = s.wet ∧ (s.settle).working = s.working ∧ (s.settle).stored = s.stored ∧
    (s.settle).writeList = s.writeList ∧ (s.settle).writing = s.writing ∧ (s.settle).retained = s.retained := by
  exact ⟨settle_field (·.pending) s,
    settle_field (·.supply) s,
    settle_field (·.cond) s,
    settle_field (·.cause) s,
    settle_field (·.strap) s,
    settle_field (·.ports) s,
    settle_field (·.stackMap) s,
    settle_field (·.deck) s,
    settle_field (·.arrivals) s,
    settle_field (·.loaders) s,
    settle_field (·.shipLog) s,
    settle_field (·.clock) s,
    settle_field (·.wet) s,
    settle_field (·.working) s,
    settle_field (·.stored) s,
    settle_field (·.writeList) s,
    settle_field (·.writing) s,
    settle_field (·.retained) s⟩

end Sys2Proof.Machine
end

