-- ==== Sys2Proof/Laws/Frame3.lean ====
section
/-! SUPPORT. What each shared operation leaves unchanged: one frame for each, and one lemma for each field of it. -/
namespace Sys2Proof.Machine

variable (s : State)

@[simp] theorem State.revokeIssued_frame (n : Nat) :
    (s.revokeIssued n).pending = s.pending ∧ (s.revokeIssued n).supply = s.supply ∧ (s.revokeIssued n).cond = s.cond ∧
    (s.revokeIssued n).cause = s.cause ∧ (s.revokeIssued n).strap = s.strap ∧ (s.revokeIssued n).ports = s.ports ∧
    (s.revokeIssued n).packs = s.packs ∧ (s.revokeIssued n).stackMap = s.stackMap ∧ (s.revokeIssued n).touches = s.touches ∧
    (s.revokeIssued n).backlog = s.backlog ∧ (s.revokeIssued n).stocktake = s.stocktake ∧ (s.revokeIssued n).deck = s.deck ∧
    (s.revokeIssued n).trucks = s.trucks ∧ (s.revokeIssued n).arrivals = s.arrivals ∧ (s.revokeIssued n).waiting = s.waiting ∧
    (s.revokeIssued n).returns = s.returns ∧ (s.revokeIssued n).planQueue = s.planQueue ∧ (s.revokeIssued n).plan = s.plan ∧
    (s.revokeIssued n).lastId = s.lastId ∧ (s.revokeIssued n).shipLog = s.shipLog ∧ (s.revokeIssued n).flags = s.flags ∧
    (s.revokeIssued n).pins = s.pins ∧ (s.revokeIssued n).clock = s.clock ∧ (s.revokeIssued n).wet = s.wet ∧
    (s.revokeIssued n).working = s.working ∧ (s.revokeIssued n).stored = s.stored ∧
    (s.revokeIssued n).writeList = s.writeList ∧ (s.revokeIssued n).writing = s.writing ∧
    (s.revokeIssued n).retained = s.retained ∧ (s.revokeIssued n).marks = s.marks := by
  simp only [State.revokeIssued]
  repeat' split
  all_goals simp

@[simp] theorem State.goDown_frame (n : Nat) :
    (s.goDown n).pending = s.pending ∧ (s.goDown n).supply = s.supply ∧ (s.goDown n).cond = s.cond ∧
    (s.goDown n).cause = s.cause ∧ (s.goDown n).strap = s.strap ∧ (s.goDown n).ports = s.ports ∧ (s.goDown n).packs = s.packs ∧
    (s.goDown n).stackMap = s.stackMap ∧ (s.goDown n).touches = s.touches ∧ (s.goDown n).backlog = s.backlog ∧
    (s.goDown n).stocktake = s.stocktake ∧ (s.goDown n).deck = s.deck ∧ (s.goDown n).trucks = s.trucks ∧
    (s.goDown n).arrivals = s.arrivals ∧ (s.goDown n).waiting = s.waiting ∧ (s.goDown n).returns = s.returns ∧
    (s.goDown n).planQueue = s.planQueue ∧ (s.goDown n).plan = s.plan ∧ (s.goDown n).lastId = s.lastId ∧
    (s.goDown n).shipLog = s.shipLog ∧ (s.goDown n).flags = s.flags ∧ (s.goDown n).pins = s.pins ∧
    (s.goDown n).clock = s.clock ∧ (s.goDown n).wet = s.wet ∧ (s.goDown n).working = s.working ∧
    (s.goDown n).stored = s.stored ∧ (s.goDown n).writeList = s.writeList ∧ (s.goDown n).writing = s.writing ∧
    (s.goDown n).retained = s.retained ∧ (s.goDown n).marks = s.marks := by
  simp only [State.goDown]
  all_goals simp

@[simp] theorem State.comeUp_frame :
    (s.comeUp).pending = s.pending ∧ (s.comeUp).supply = s.supply ∧ (s.comeUp).cond = s.cond ∧ (s.comeUp).cause = s.cause ∧
    (s.comeUp).strap = s.strap ∧ (s.comeUp).ports = s.ports ∧ (s.comeUp).packs = s.packs ∧ (s.comeUp).stackMap = s.stackMap ∧
    (s.comeUp).touches = s.touches ∧ (s.comeUp).backlog = s.backlog ∧ (s.comeUp).stocktake = s.stocktake ∧
    (s.comeUp).deck = s.deck ∧ (s.comeUp).trucks = s.trucks ∧ (s.comeUp).arrivals = s.arrivals ∧
    (s.comeUp).waiting = s.waiting ∧ (s.comeUp).returns = s.returns ∧ (s.comeUp).planQueue = s.planQueue ∧
    (s.comeUp).plan = s.plan ∧ (s.comeUp).lastId = s.lastId ∧ (s.comeUp).loaders = s.loaders ∧ (s.comeUp).shipLog = s.shipLog ∧
    (s.comeUp).flags = s.flags ∧ (s.comeUp).pins = s.pins ∧ (s.comeUp).clock = s.clock ∧ (s.comeUp).wet = s.wet ∧
    (s.comeUp).working = s.working ∧ (s.comeUp).stored = s.stored ∧ (s.comeUp).writeList = s.writeList ∧
    (s.comeUp).writing = s.writing ∧ (s.comeUp).retained = s.retained ∧ (s.comeUp).marks = s.marks := by
  simp only [State.comeUp]
  all_goals simp

@[simp] theorem State.judgeLoader_frame (n : Nat) (b : EffState) :
    (s.judgeLoader n b).pending = s.pending ∧ (s.judgeLoader n b).supply = s.supply ∧ (s.judgeLoader n b).cond = s.cond ∧
    (s.judgeLoader n b).cause = s.cause ∧ (s.judgeLoader n b).strap = s.strap ∧ (s.judgeLoader n b).ports = s.ports ∧
    (s.judgeLoader n b).packs = s.packs ∧ (s.judgeLoader n b).stackMap = s.stackMap ∧ (s.judgeLoader n b).touches = s.touches ∧
    (s.judgeLoader n b).backlog = s.backlog ∧ (s.judgeLoader n b).stocktake = s.stocktake ∧ (s.judgeLoader n b).deck = s.deck ∧
    (s.judgeLoader n b).trucks = s.trucks ∧ (s.judgeLoader n b).arrivals = s.arrivals ∧
    (s.judgeLoader n b).waiting = s.waiting ∧ (s.judgeLoader n b).returns = s.returns ∧
    (s.judgeLoader n b).planQueue = s.planQueue ∧ (s.judgeLoader n b).plan = s.plan ∧ (s.judgeLoader n b).lastId = s.lastId ∧
    (s.judgeLoader n b).shipLog = s.shipLog ∧ (s.judgeLoader n b).flags = s.flags ∧ (s.judgeLoader n b).pins = s.pins ∧
    (s.judgeLoader n b).clock = s.clock ∧ (s.judgeLoader n b).wet = s.wet ∧ (s.judgeLoader n b).working = s.working ∧
    (s.judgeLoader n b).stored = s.stored ∧ (s.judgeLoader n b).writeList = s.writeList ∧
    (s.judgeLoader n b).writing = s.writing ∧ (s.judgeLoader n b).retained = s.retained ∧
    (s.judgeLoader n b).marks = s.marks := by
  simp only [State.judgeLoader]
  repeat' split
  all_goals simp

@[simp] theorem State.linkUp_frame (n : Nat) :
    (s.linkUp n).pending = s.pending ∧ (s.linkUp n).supply = s.supply ∧ (s.linkUp n).cond = s.cond ∧
    (s.linkUp n).cause = s.cause ∧ (s.linkUp n).strap = s.strap ∧ (s.linkUp n).ports = s.ports ∧ (s.linkUp n).packs = s.packs ∧
    (s.linkUp n).stackMap = s.stackMap ∧ (s.linkUp n).touches = s.touches ∧ (s.linkUp n).backlog = s.backlog ∧
    (s.linkUp n).stocktake = s.stocktake ∧ (s.linkUp n).deck = s.deck ∧ (s.linkUp n).trucks = s.trucks ∧
    (s.linkUp n).arrivals = s.arrivals ∧ (s.linkUp n).waiting = s.waiting ∧ (s.linkUp n).returns = s.returns ∧
    (s.linkUp n).planQueue = s.planQueue ∧ (s.linkUp n).plan = s.plan ∧ (s.linkUp n).lastId = s.lastId ∧
    (s.linkUp n).shipLog = s.shipLog ∧ (s.linkUp n).flags = s.flags ∧ (s.linkUp n).pins = s.pins ∧
    (s.linkUp n).clock = s.clock ∧ (s.linkUp n).wet = s.wet ∧ (s.linkUp n).working = s.working ∧
    (s.linkUp n).stored = s.stored ∧ (s.linkUp n).writeList = s.writeList ∧ (s.linkUp n).writing = s.writing ∧
    (s.linkUp n).retained = s.retained ∧ (s.linkUp n).marks = s.marks := by
  simp only [State.linkUp]
  all_goals simp

@[simp] theorem State.hear_frame (p : Port) :
    (s.hear p).pending = s.pending ∧ (s.hear p).supply = s.supply ∧ (s.hear p).cond = s.cond ∧ (s.hear p).cause = s.cause ∧
    (s.hear p).strap = s.strap ∧ (s.hear p).ports = s.ports ∧ (s.hear p).packs = s.packs ∧ (s.hear p).stackMap = s.stackMap ∧
    (s.hear p).touches = s.touches ∧ (s.hear p).backlog = s.backlog ∧ (s.hear p).stocktake = s.stocktake ∧
    (s.hear p).deck = s.deck ∧ (s.hear p).trucks = s.trucks ∧ (s.hear p).arrivals = s.arrivals ∧
    (s.hear p).waiting = s.waiting ∧ (s.hear p).returns = s.returns ∧ (s.hear p).planQueue = s.planQueue ∧
    (s.hear p).plan = s.plan ∧ (s.hear p).lastId = s.lastId ∧ (s.hear p).shipLog = s.shipLog ∧ (s.hear p).flags = s.flags ∧
    (s.hear p).pins = s.pins ∧ (s.hear p).clock = s.clock ∧ (s.hear p).wet = s.wet ∧ (s.hear p).working = s.working ∧
    (s.hear p).stored = s.stored ∧ (s.hear p).writeList = s.writeList ∧ (s.hear p).writing = s.writing ∧
    (s.hear p).retained = s.retained ∧ (s.hear p).marks = s.marks := by
  simp only [State.hear]
  repeat' split
  all_goals simp

@[simp] theorem State.silenceExpires_frame (n : Nat) :
    (s.silenceExpires n).pending = s.pending ∧ (s.silenceExpires n).supply = s.supply ∧ (s.silenceExpires n).cond = s.cond ∧
    (s.silenceExpires n).cause = s.cause ∧ (s.silenceExpires n).strap = s.strap ∧ (s.silenceExpires n).ports = s.ports ∧
    (s.silenceExpires n).packs = s.packs ∧ (s.silenceExpires n).stackMap = s.stackMap ∧ (s.silenceExpires n).touches = s.touches ∧
    (s.silenceExpires n).backlog = s.backlog ∧ (s.silenceExpires n).stocktake = s.stocktake ∧
    (s.silenceExpires n).deck = s.deck ∧ (s.silenceExpires n).trucks = s.trucks ∧ (s.silenceExpires n).arrivals = s.arrivals ∧
    (s.silenceExpires n).waiting = s.waiting ∧ (s.silenceExpires n).returns = s.returns ∧
    (s.silenceExpires n).planQueue = s.planQueue ∧ (s.silenceExpires n).plan = s.plan ∧
    (s.silenceExpires n).lastId = s.lastId ∧ (s.silenceExpires n).shipLog = s.shipLog ∧ (s.silenceExpires n).pins = s.pins ∧
    (s.silenceExpires n).clock = s.clock ∧ (s.silenceExpires n).wet = s.wet ∧ (s.silenceExpires n).working = s.working ∧
    (s.silenceExpires n).stored = s.stored ∧ (s.silenceExpires n).writeList = s.writeList ∧
    (s.silenceExpires n).writing = s.writing ∧ (s.silenceExpires n).retained = s.retained ∧
    (s.silenceExpires n).marks = s.marks := by
  simp only [State.silenceExpires]
  repeat' split
  all_goals simp

@[simp] theorem State.loseLifted_frame (n : Nat) :
    ((s.loseLifted n).1).pending = s.pending ∧ ((s.loseLifted n).1).supply = s.supply ∧ ((s.loseLifted n).1).cond = s.cond ∧
    ((s.loseLifted n).1).cause = s.cause ∧ ((s.loseLifted n).1).strap = s.strap ∧ ((s.loseLifted n).1).ports = s.ports ∧
    ((s.loseLifted n).1).stackMap = s.stackMap ∧ ((s.loseLifted n).1).stocktake = s.stocktake ∧
    ((s.loseLifted n).1).deck = s.deck ∧ ((s.loseLifted n).1).arrivals = s.arrivals ∧
    ((s.loseLifted n).1).waiting = s.waiting ∧ ((s.loseLifted n).1).returns = s.returns ∧
    ((s.loseLifted n).1).lastId = s.lastId ∧ ((s.loseLifted n).1).shipLog = s.shipLog ∧ ((s.loseLifted n).1).pins = s.pins ∧
    ((s.loseLifted n).1).clock = s.clock ∧ ((s.loseLifted n).1).wet = s.wet ∧ ((s.loseLifted n).1).working = s.working ∧
    ((s.loseLifted n).1).stored = s.stored ∧ ((s.loseLifted n).1).writeList = s.writeList ∧
    ((s.loseLifted n).1).writing = s.writing ∧ ((s.loseLifted n).1).retained = s.retained := by
  simp only [State.loseLifted]
  repeat' split
  all_goals simp

@[simp] theorem State.setMode_frame (n : Nat) (m : OfficeMode) :
    ((s.setMode n m).1).pending = s.pending ∧ ((s.setMode n m).1).supply = s.supply ∧ ((s.setMode n m).1).cond = s.cond ∧
    ((s.setMode n m).1).cause = s.cause ∧ ((s.setMode n m).1).strap = s.strap ∧ ((s.setMode n m).1).ports = s.ports ∧
    ((s.setMode n m).1).stackMap = s.stackMap ∧ ((s.setMode n m).1).stocktake = s.stocktake ∧ ((s.setMode n m).1).deck = s.deck ∧
    ((s.setMode n m).1).arrivals = s.arrivals ∧ ((s.setMode n m).1).waiting = s.waiting ∧
    ((s.setMode n m).1).returns = s.returns ∧ ((s.setMode n m).1).lastId = s.lastId ∧ ((s.setMode n m).1).shipLog = s.shipLog ∧
    ((s.setMode n m).1).pins = s.pins ∧ ((s.setMode n m).1).clock = s.clock ∧ ((s.setMode n m).1).wet = s.wet ∧
    ((s.setMode n m).1).working = s.working ∧ ((s.setMode n m).1).stored = s.stored ∧
    ((s.setMode n m).1).writeList = s.writeList ∧ ((s.setMode n m).1).writing = s.writing ∧
    ((s.setMode n m).1).retained = s.retained := by
  simp only [State.setMode]
  repeat' split
  all_goals simp

@[simp] theorem State.expireSilent_frame :
    (s.expireSilent).pending = s.pending ∧ (s.expireSilent).supply = s.supply ∧ (s.expireSilent).cond = s.cond ∧
    (s.expireSilent).cause = s.cause ∧ (s.expireSilent).strap = s.strap ∧ (s.expireSilent).ports = s.ports ∧
    (s.expireSilent).packs = s.packs ∧ (s.expireSilent).stackMap = s.stackMap ∧ (s.expireSilent).touches = s.touches ∧
    (s.expireSilent).backlog = s.backlog ∧ (s.expireSilent).stocktake = s.stocktake ∧ (s.expireSilent).deck = s.deck ∧
    (s.expireSilent).trucks = s.trucks ∧ (s.expireSilent).arrivals = s.arrivals ∧ (s.expireSilent).waiting = s.waiting ∧
    (s.expireSilent).returns = s.returns ∧ (s.expireSilent).planQueue = s.planQueue ∧ (s.expireSilent).plan = s.plan ∧
    (s.expireSilent).lastId = s.lastId ∧ (s.expireSilent).shipLog = s.shipLog ∧ (s.expireSilent).pins = s.pins ∧
    (s.expireSilent).clock = s.clock ∧ (s.expireSilent).wet = s.wet ∧ (s.expireSilent).working = s.working ∧
    (s.expireSilent).stored = s.stored ∧ (s.expireSilent).writeList = s.writeList ∧ (s.expireSilent).writing = s.writing ∧
    (s.expireSilent).retained = s.retained ∧ (s.expireSilent).marks = s.marks := by
  refine ⟨foldl_field (·.pending) _ (fun s a => by (repeat' split) <;> simp) _ s, foldl_field (·.supply) _ (fun s a => by (repeat' split) <;> simp) _ s, foldl_field (·.cond) _ (fun s a => by (repeat' split) <;> simp) _ s, foldl_field (·.cause) _ (fun s a => by (repeat' split) <;> simp) _ s, foldl_field (·.strap) _ (fun s a => by (repeat' split) <;> simp) _ s, foldl_field (·.ports) _ (fun s a => by (repeat' split) <;> simp) _ s, foldl_field (·.packs) _ (fun s a => by (repeat' split) <;> simp) _ s, foldl_field (·.stackMap) _ (fun s a => by (repeat' split) <;> simp) _ s, foldl_field (·.touches) _ (fun s a => by (repeat' split) <;> simp) _ s, foldl_field (·.backlog) _ (fun s a => by (repeat' split) <;> simp) _ s, foldl_field (·.stocktake) _ (fun s a => by (repeat' split) <;> simp) _ s, foldl_field (·.deck) _ (fun s a => by (repeat' split) <;> simp) _ s, foldl_field (·.trucks) _ (fun s a => by (repeat' split) <;> simp) _ s, foldl_field (·.arrivals) _ (fun s a => by (repeat' split) <;> simp) _ s, foldl_field (·.waiting) _ (fun s a => by (repeat' split) <;> simp) _ s, foldl_field (·.returns) _ (fun s a => by (repeat' split) <;> simp) _ s, foldl_field (·.planQueue) _ (fun s a => by (repeat' split) <;> simp) _ s, foldl_field (·.plan) _ (fun s a => by (repeat' split) <;> simp) _ s, foldl_field (·.lastId) _ (fun s a => by (repeat' split) <;> simp) _ s, foldl_field (·.shipLog) _ (fun s a => by (repeat' split) <;> simp) _ s, foldl_field (·.pins) _ (fun s a => by (repeat' split) <;> simp) _ s, foldl_field (·.clock) _ (fun s a => by (repeat' split) <;> simp) _ s, foldl_field (·.wet) _ (fun s a => by (repeat' split) <;> simp) _ s, foldl_field (·.working) _ (fun s a => by (repeat' split) <;> simp) _ s, foldl_field (·.stored) _ (fun s a => by (repeat' split) <;> simp) _ s, foldl_field (·.writeList) _ (fun s a => by (repeat' split) <;> simp) _ s, foldl_field (·.writing) _ (fun s a => by (repeat' split) <;> simp) _ s, foldl_field (·.retained) _ (fun s a => by (repeat' split) <;> simp) _ s, foldl_field (·.marks) _ (fun s a => by (repeat' split) <;> simp) _ s⟩

@[simp] theorem State.taskExpires_frame (id : Nat) :
    (s.taskExpires id).pending = s.pending ∧ (s.taskExpires id).supply = s.supply ∧ (s.taskExpires id).cond = s.cond ∧
    (s.taskExpires id).cause = s.cause ∧ (s.taskExpires id).strap = s.strap ∧ (s.taskExpires id).ports = s.ports ∧
    (s.taskExpires id).packs = s.packs ∧ (s.taskExpires id).stackMap = s.stackMap ∧ (s.taskExpires id).touches = s.touches ∧
    (s.taskExpires id).backlog = s.backlog ∧ (s.taskExpires id).stocktake = s.stocktake ∧ (s.taskExpires id).deck = s.deck ∧
    (s.taskExpires id).trucks = s.trucks ∧ (s.taskExpires id).arrivals = s.arrivals ∧ (s.taskExpires id).waiting = s.waiting ∧
    (s.taskExpires id).returns = s.returns ∧ (s.taskExpires id).planQueue = s.planQueue ∧ (s.taskExpires id).plan = s.plan ∧
    (s.taskExpires id).lastId = s.lastId ∧ (s.taskExpires id).shipLog = s.shipLog ∧ (s.taskExpires id).pins = s.pins ∧
    (s.taskExpires id).clock = s.clock ∧ (s.taskExpires id).wet = s.wet ∧ (s.taskExpires id).working = s.working ∧
    (s.taskExpires id).stored = s.stored ∧ (s.taskExpires id).writeList = s.writeList ∧
    (s.taskExpires id).writing = s.writing ∧ (s.taskExpires id).retained = s.retained ∧
    (s.taskExpires id).marks = s.marks := by
  simp only [State.taskExpires]
  repeat' split
  all_goals simp

@[simp] theorem State.displace_frame (t : Task) :
    (s.displace t).pending = s.pending ∧ (s.displace t).supply = s.supply ∧ (s.displace t).cond = s.cond ∧
    (s.displace t).cause = s.cause ∧ (s.displace t).strap = s.strap ∧ (s.displace t).ports = s.ports ∧
    (s.displace t).stackMap = s.stackMap ∧ (s.displace t).stocktake = s.stocktake ∧ (s.displace t).deck = s.deck ∧
    (s.displace t).arrivals = s.arrivals ∧ (s.displace t).waiting = s.waiting ∧ (s.displace t).returns = s.returns ∧
    (s.displace t).lastId = s.lastId ∧ (s.displace t).shipLog = s.shipLog ∧ (s.displace t).pins = s.pins ∧
    (s.displace t).clock = s.clock ∧ (s.displace t).wet = s.wet ∧ (s.displace t).working = s.working ∧
    (s.displace t).stored = s.stored ∧ (s.displace t).writeList = s.writeList ∧ (s.displace t).writing = s.writing ∧
    (s.displace t).retained = s.retained := by
  simp only [State.displace]
  repeat' split
  all_goals simp

@[simp] theorem State.searchTasks_frame (l : List Nat) :
    ((State.searchTasks l s).1).pending = s.pending ∧ ((State.searchTasks l s).1).supply = s.supply ∧
    ((State.searchTasks l s).1).cond = s.cond ∧ ((State.searchTasks l s).1).cause = s.cause ∧
    ((State.searchTasks l s).1).strap = s.strap ∧ ((State.searchTasks l s).1).ports = s.ports ∧
    ((State.searchTasks l s).1).stackMap = s.stackMap ∧ ((State.searchTasks l s).1).stocktake = s.stocktake ∧
    ((State.searchTasks l s).1).deck = s.deck ∧ ((State.searchTasks l s).1).arrivals = s.arrivals ∧
    ((State.searchTasks l s).1).waiting = s.waiting ∧ ((State.searchTasks l s).1).returns = s.returns ∧
    ((State.searchTasks l s).1).lastId = s.lastId ∧ ((State.searchTasks l s).1).shipLog = s.shipLog ∧
    ((State.searchTasks l s).1).pins = s.pins ∧ ((State.searchTasks l s).1).clock = s.clock ∧
    ((State.searchTasks l s).1).wet = s.wet ∧ ((State.searchTasks l s).1).working = s.working ∧
    ((State.searchTasks l s).1).stored = s.stored ∧ ((State.searchTasks l s).1).writeList = s.writeList ∧
    ((State.searchTasks l s).1).writing = s.writing ∧ ((State.searchTasks l s).1).retained = s.retained := by
  induction l generalizing s with
  | nil => simp [State.searchTasks]
  | cons a l ih =>
    simp only [State.searchTasks]
    repeat' split
    all_goals simp [ih]

@[simp] theorem State.takeFromSource_frame (t : Task) :
    (s.takeFromSource t).pending = s.pending ∧ (s.takeFromSource t).supply = s.supply ∧ (s.takeFromSource t).cond = s.cond ∧
    (s.takeFromSource t).cause = s.cause ∧ (s.takeFromSource t).strap = s.strap ∧ (s.takeFromSource t).ports = s.ports ∧
    (s.takeFromSource t).packs = s.packs ∧ (s.takeFromSource t).touches = s.touches ∧
    (s.takeFromSource t).backlog = s.backlog ∧ (s.takeFromSource t).stocktake = s.stocktake ∧
    (s.takeFromSource t).arrivals = s.arrivals ∧ (s.takeFromSource t).waiting = s.waiting ∧
    (s.takeFromSource t).returns = s.returns ∧ (s.takeFromSource t).planQueue = s.planQueue ∧
    (s.takeFromSource t).plan = s.plan ∧ (s.takeFromSource t).tasks = s.tasks ∧ (s.takeFromSource t).lastId = s.lastId ∧
    (s.takeFromSource t).loaders = s.loaders ∧ (s.takeFromSource t).shipLog = s.shipLog ∧
    (s.takeFromSource t).flags = s.flags ∧ (s.takeFromSource t).clock = s.clock ∧ (s.takeFromSource t).wet = s.wet ∧
    (s.takeFromSource t).working = s.working ∧ (s.takeFromSource t).stored = s.stored ∧
    (s.takeFromSource t).writeList = s.writeList ∧ (s.takeFromSource t).writing = s.writing ∧
    (s.takeFromSource t).retained = s.retained := by
  simp only [State.takeFromSource]
  repeat' split
  all_goals simp

@[simp] theorem State.leaveTruck_frame (i : Nat) :
    (s.leaveTruck i).pending = s.pending ∧ (s.leaveTruck i).supply = s.supply ∧ (s.leaveTruck i).cond = s.cond ∧
    (s.leaveTruck i).cause = s.cause ∧ (s.leaveTruck i).strap = s.strap ∧ (s.leaveTruck i).ports = s.ports ∧
    (s.leaveTruck i).stackMap = s.stackMap ∧ (s.leaveTruck i).touches = s.touches ∧ (s.leaveTruck i).backlog = s.backlog ∧
    (s.leaveTruck i).stocktake = s.stocktake ∧ (s.leaveTruck i).deck = s.deck ∧ (s.leaveTruck i).arrivals = s.arrivals ∧
    (s.leaveTruck i).waiting = s.waiting ∧ (s.leaveTruck i).returns = s.returns ∧ (s.leaveTruck i).planQueue = s.planQueue ∧
    (s.leaveTruck i).plan = s.plan ∧ (s.leaveTruck i).tasks = s.tasks ∧ (s.leaveTruck i).lastId = s.lastId ∧
    (s.leaveTruck i).loaders = s.loaders ∧ (s.leaveTruck i).shipLog = s.shipLog ∧ (s.leaveTruck i).flags = s.flags ∧
    (s.leaveTruck i).pins = s.pins ∧ (s.leaveTruck i).clock = s.clock ∧ (s.leaveTruck i).wet = s.wet ∧
    (s.leaveTruck i).working = s.working ∧ (s.leaveTruck i).stored = s.stored ∧ (s.leaveTruck i).writeList = s.writeList ∧
    (s.leaveTruck i).writing = s.writing ∧ (s.leaveTruck i).retained = s.retained ∧ (s.leaveTruck i).marks = s.marks := by
  simp only [State.leaveTruck]
  repeat' split
  all_goals simp

@[simp] theorem State.takeLift_frame (n : Nat) (t : Task) :
    (s.takeLift n t).pending = s.pending ∧ (s.takeLift n t).supply = s.supply ∧ (s.takeLift n t).cond = s.cond ∧
    (s.takeLift n t).cause = s.cause ∧ (s.takeLift n t).strap = s.strap ∧ (s.takeLift n t).ports = s.ports ∧
    (s.takeLift n t).touches = s.touches ∧ (s.takeLift n t).backlog = s.backlog ∧ (s.takeLift n t).stocktake = s.stocktake ∧
    (s.takeLift n t).arrivals = s.arrivals ∧ (s.takeLift n t).waiting = s.waiting ∧ (s.takeLift n t).returns = s.returns ∧
    (s.takeLift n t).planQueue = s.planQueue ∧ (s.takeLift n t).plan = s.plan ∧ (s.takeLift n t).lastId = s.lastId ∧
    (s.takeLift n t).loaders = s.loaders ∧ (s.takeLift n t).shipLog = s.shipLog ∧ (s.takeLift n t).flags = s.flags ∧
    (s.takeLift n t).clock = s.clock ∧ (s.takeLift n t).wet = s.wet ∧ (s.takeLift n t).working = s.working ∧
    (s.takeLift n t).stored = s.stored ∧ (s.takeLift n t).writeList = s.writeList ∧ (s.takeLift n t).writing = s.writing ∧
    (s.takeLift n t).retained = s.retained := by
  simp only [State.takeLift]
  repeat' split
  all_goals simp

@[simp] theorem State.toDeckHead_frame (tag : Nat) :
    (s.toDeckHead tag).pending = s.pending ∧ (s.toDeckHead tag).supply = s.supply ∧ (s.toDeckHead tag).cond = s.cond ∧
    (s.toDeckHead tag).cause = s.cause ∧ (s.toDeckHead tag).strap = s.strap ∧ (s.toDeckHead tag).ports = s.ports ∧
    (s.toDeckHead tag).packs = s.packs ∧ (s.toDeckHead tag).stackMap = s.stackMap ∧ (s.toDeckHead tag).touches = s.touches ∧
    (s.toDeckHead tag).backlog = s.backlog ∧ (s.toDeckHead tag).stocktake = s.stocktake ∧
    (s.toDeckHead tag).trucks = s.trucks ∧ (s.toDeckHead tag).arrivals = s.arrivals ∧ (s.toDeckHead tag).waiting = s.waiting ∧
    (s.toDeckHead tag).returns = s.returns ∧ (s.toDeckHead tag).planQueue = s.planQueue ∧ (s.toDeckHead tag).plan = s.plan ∧
    (s.toDeckHead tag).tasks = s.tasks ∧ (s.toDeckHead tag).lastId = s.lastId ∧ (s.toDeckHead tag).loaders = s.loaders ∧
    (s.toDeckHead tag).shipLog = s.shipLog ∧ (s.toDeckHead tag).flags = s.flags ∧ (s.toDeckHead tag).pins = s.pins ∧
    (s.toDeckHead tag).clock = s.clock ∧ (s.toDeckHead tag).wet = s.wet ∧ (s.toDeckHead tag).working = s.working ∧
    (s.toDeckHead tag).stored = s.stored ∧ (s.toDeckHead tag).writeList = s.writeList ∧
    (s.toDeckHead tag).writing = s.writing ∧ (s.toDeckHead tag).retained = s.retained ∧
    (s.toDeckHead tag).marks = s.marks := by
  simp only [State.toDeckHead]
  repeat' split
  all_goals simp

@[simp] theorem State.failPack_frame (t : Task) :
    (s.failPack t).pending = s.pending ∧ (s.failPack t).supply = s.supply ∧ (s.failPack t).cond = s.cond ∧
    (s.failPack t).cause = s.cause ∧ (s.failPack t).strap = s.strap ∧ (s.failPack t).ports = s.ports ∧
    (s.failPack t).touches = s.touches ∧ (s.failPack t).stocktake = s.stocktake ∧ (s.failPack t).arrivals = s.arrivals ∧
    (s.failPack t).waiting = s.waiting ∧ (s.failPack t).returns = s.returns ∧ (s.failPack t).tasks = s.tasks ∧
    (s.failPack t).lastId = s.lastId ∧ (s.failPack t).loaders = s.loaders ∧ (s.failPack t).shipLog = s.shipLog ∧
    (s.failPack t).clock = s.clock ∧ (s.failPack t).wet = s.wet ∧ (s.failPack t).working = s.working ∧
    (s.failPack t).stored = s.stored ∧ (s.failPack t).writeList = s.writeList ∧ (s.failPack t).writing = s.writing ∧
    (s.failPack t).retained = s.retained := by
  simp only [State.failPack]
  repeat' split
  all_goals simp

@[simp] theorem State.placeOnStack_frame (t : Task) (k : Nat) :
    (s.placeOnStack t k).pending = s.pending ∧ (s.placeOnStack t k).supply = s.supply ∧ (s.placeOnStack t k).cond = s.cond ∧
    (s.placeOnStack t k).cause = s.cause ∧ (s.placeOnStack t k).strap = s.strap ∧ (s.placeOnStack t k).ports = s.ports ∧
    (s.placeOnStack t k).touches = s.touches ∧ (s.placeOnStack t k).backlog = s.backlog ∧
    (s.placeOnStack t k).stocktake = s.stocktake ∧ (s.placeOnStack t k).deck = s.deck ∧
    (s.placeOnStack t k).trucks = s.trucks ∧ (s.placeOnStack t k).arrivals = s.arrivals ∧
    (s.placeOnStack t k).waiting = s.waiting ∧ (s.placeOnStack t k).returns = s.returns ∧
    (s.placeOnStack t k).planQueue = s.planQueue ∧ (s.placeOnStack t k).plan = s.plan ∧ (s.placeOnStack t k).tasks = s.tasks ∧
    (s.placeOnStack t k).lastId = s.lastId ∧ (s.placeOnStack t k).loaders = s.loaders ∧
    (s.placeOnStack t k).shipLog = s.shipLog ∧ (s.placeOnStack t k).flags = s.flags ∧ (s.placeOnStack t k).pins = s.pins ∧
    (s.placeOnStack t k).clock = s.clock ∧ (s.placeOnStack t k).wet = s.wet ∧ (s.placeOnStack t k).working = s.working ∧
    (s.placeOnStack t k).stored = s.stored ∧ (s.placeOnStack t k).writeList = s.writeList ∧
    (s.placeOnStack t k).writing = s.writing ∧ (s.placeOnStack t k).retained = s.retained ∧
    (s.placeOnStack t k).marks = s.marks := by
  simp only [State.placeOnStack]
  all_goals simp

@[simp] theorem State.loadPack_frame (slot i : Nat) :
    (s.loadPack slot i).pending = s.pending ∧ (s.loadPack slot i).supply = s.supply ∧ (s.loadPack slot i).cond = s.cond ∧
    (s.loadPack slot i).cause = s.cause ∧ (s.loadPack slot i).strap = s.strap ∧ (s.loadPack slot i).ports = s.ports ∧
    (s.loadPack slot i).stackMap = s.stackMap ∧ (s.loadPack slot i).touches = s.touches ∧ (s.loadPack slot i).backlog = s.backlog ∧
    (s.loadPack slot i).stocktake = s.stocktake ∧ (s.loadPack slot i).deck = s.deck ∧
    (s.loadPack slot i).arrivals = s.arrivals ∧ (s.loadPack slot i).waiting = s.waiting ∧
    (s.loadPack slot i).returns = s.returns ∧ (s.loadPack slot i).planQueue = s.planQueue ∧ (s.loadPack slot i).plan = s.plan ∧
    (s.loadPack slot i).tasks = s.tasks ∧ (s.loadPack slot i).lastId = s.lastId ∧ (s.loadPack slot i).loaders = s.loaders ∧
    (s.loadPack slot i).shipLog = s.shipLog ∧ (s.loadPack slot i).flags = s.flags ∧ (s.loadPack slot i).pins = s.pins ∧
    (s.loadPack slot i).clock = s.clock ∧ (s.loadPack slot i).wet = s.wet ∧ (s.loadPack slot i).working = s.working ∧
    (s.loadPack slot i).stored = s.stored ∧ (s.loadPack slot i).writeList = s.writeList ∧
    (s.loadPack slot i).writing = s.writing ∧ (s.loadPack slot i).retained = s.retained ∧
    (s.loadPack slot i).marks = s.marks := by
  simp only [State.loadPack]
  repeat' split
  all_goals simp

@[simp] theorem State.placeOnTruck_frame (t : Task) (slot : Nat) :
    (s.placeOnTruck t slot).pending = s.pending ∧ (s.placeOnTruck t slot).supply = s.supply ∧
    (s.placeOnTruck t slot).cond = s.cond ∧ (s.placeOnTruck t slot).cause = s.cause ∧ (s.placeOnTruck t slot).strap = s.strap ∧
    (s.placeOnTruck t slot).ports = s.ports ∧ (s.placeOnTruck t slot).stackMap = s.stackMap ∧
    (s.placeOnTruck t slot).touches = s.touches ∧ (s.placeOnTruck t slot).backlog = s.backlog ∧
    (s.placeOnTruck t slot).stocktake = s.stocktake ∧ (s.placeOnTruck t slot).deck = s.deck ∧
    (s.placeOnTruck t slot).arrivals = s.arrivals ∧ (s.placeOnTruck t slot).waiting = s.waiting ∧
    (s.placeOnTruck t slot).returns = s.returns ∧ (s.placeOnTruck t slot).tasks = s.tasks ∧
    (s.placeOnTruck t slot).lastId = s.lastId ∧ (s.placeOnTruck t slot).loaders = s.loaders ∧
    (s.placeOnTruck t slot).shipLog = s.shipLog ∧ (s.placeOnTruck t slot).pins = s.pins ∧
    (s.placeOnTruck t slot).clock = s.clock ∧ (s.placeOnTruck t slot).wet = s.wet ∧
    (s.placeOnTruck t slot).working = s.working ∧ (s.placeOnTruck t slot).stored = s.stored ∧
    (s.placeOnTruck t slot).writeList = s.writeList ∧ (s.placeOnTruck t slot).writing = s.writing ∧
    (s.placeOnTruck t slot).retained = s.retained := by
  simp only [State.placeOnTruck]
  all_goals simp

@[simp] theorem State.revokeDeckHead_frame :
    (s.revokeDeckHead).pending = s.pending ∧ (s.revokeDeckHead).supply = s.supply ∧ (s.revokeDeckHead).cond = s.cond ∧
    (s.revokeDeckHead).cause = s.cause ∧ (s.revokeDeckHead).strap = s.strap ∧ (s.revokeDeckHead).ports = s.ports ∧
    (s.revokeDeckHead).packs = s.packs ∧ (s.revokeDeckHead).stackMap = s.stackMap ∧ (s.revokeDeckHead).touches = s.touches ∧
    (s.revokeDeckHead).backlog = s.backlog ∧ (s.revokeDeckHead).stocktake = s.stocktake ∧ (s.revokeDeckHead).deck = s.deck ∧
    (s.revokeDeckHead).trucks = s.trucks ∧ (s.revokeDeckHead).arrivals = s.arrivals ∧ (s.revokeDeckHead).waiting = s.waiting ∧
    (s.revokeDeckHead).returns = s.returns ∧ (s.revokeDeckHead).planQueue = s.planQueue ∧ (s.revokeDeckHead).plan = s.plan ∧
    (s.revokeDeckHead).lastId = s.lastId ∧ (s.revokeDeckHead).shipLog = s.shipLog ∧ (s.revokeDeckHead).flags = s.flags ∧
    (s.revokeDeckHead).pins = s.pins ∧ (s.revokeDeckHead).clock = s.clock ∧ (s.revokeDeckHead).wet = s.wet ∧
    (s.revokeDeckHead).working = s.working ∧ (s.revokeDeckHead).stored = s.stored ∧
    (s.revokeDeckHead).writeList = s.writeList ∧ (s.revokeDeckHead).writing = s.writing ∧
    (s.revokeDeckHead).retained = s.retained ∧ (s.revokeDeckHead).marks = s.marks := by
  simp only [State.revokeDeckHead]
  repeat' split
  all_goals simp

@[simp] theorem State.backToDeck_frame (i : Nat) :
    (s.backToDeck i).pending = s.pending ∧ (s.backToDeck i).supply = s.supply ∧ (s.backToDeck i).cond = s.cond ∧
    (s.backToDeck i).cause = s.cause ∧ (s.backToDeck i).strap = s.strap ∧ (s.backToDeck i).ports = s.ports ∧
    (s.backToDeck i).stackMap = s.stackMap ∧ (s.backToDeck i).touches = s.touches ∧ (s.backToDeck i).backlog = s.backlog ∧
    (s.backToDeck i).stocktake = s.stocktake ∧ (s.backToDeck i).trucks = s.trucks ∧ (s.backToDeck i).arrivals = s.arrivals ∧
    (s.backToDeck i).waiting = s.waiting ∧ (s.backToDeck i).returns = s.returns ∧ (s.backToDeck i).planQueue = s.planQueue ∧
    (s.backToDeck i).plan = s.plan ∧ (s.backToDeck i).lastId = s.lastId ∧ (s.backToDeck i).shipLog = s.shipLog ∧
    (s.backToDeck i).flags = s.flags ∧ (s.backToDeck i).clock = s.clock ∧ (s.backToDeck i).wet = s.wet ∧
    (s.backToDeck i).working = s.working ∧ (s.backToDeck i).stored = s.stored ∧ (s.backToDeck i).writeList = s.writeList ∧
    (s.backToDeck i).writing = s.writing ∧ (s.backToDeck i).retained = s.retained ∧ (s.backToDeck i).marks = s.marks := by
  simp only [State.backToDeck]
  all_goals simp

@[simp] theorem State.backToTruck_frame (t : Task) (slot : Nat) :
    (s.backToTruck t slot).pending = s.pending ∧ (s.backToTruck t slot).supply = s.supply ∧
    (s.backToTruck t slot).cond = s.cond ∧ (s.backToTruck t slot).cause = s.cause ∧ (s.backToTruck t slot).strap = s.strap ∧
    (s.backToTruck t slot).ports = s.ports ∧ (s.backToTruck t slot).stackMap = s.stackMap ∧
    (s.backToTruck t slot).touches = s.touches ∧ (s.backToTruck t slot).backlog = s.backlog ∧
    (s.backToTruck t slot).stocktake = s.stocktake ∧ (s.backToTruck t slot).deck = s.deck ∧
    (s.backToTruck t slot).arrivals = s.arrivals ∧ (s.backToTruck t slot).waiting = s.waiting ∧
    (s.backToTruck t slot).returns = s.returns ∧ (s.backToTruck t slot).planQueue = s.planQueue ∧
    (s.backToTruck t slot).plan = s.plan ∧ (s.backToTruck t slot).tasks = s.tasks ∧ (s.backToTruck t slot).lastId = s.lastId ∧
    (s.backToTruck t slot).loaders = s.loaders ∧ (s.backToTruck t slot).shipLog = s.shipLog ∧
    (s.backToTruck t slot).flags = s.flags ∧ (s.backToTruck t slot).pins = s.pins ∧ (s.backToTruck t slot).clock = s.clock ∧
    (s.backToTruck t slot).wet = s.wet ∧ (s.backToTruck t slot).working = s.working ∧
    (s.backToTruck t slot).stored = s.stored ∧ (s.backToTruck t slot).writeList = s.writeList ∧
    (s.backToTruck t slot).writing = s.writing ∧ (s.backToTruck t slot).retained = s.retained ∧
    (s.backToTruck t slot).marks = s.marks := by
  simp only [State.backToTruck]
  repeat' split
  all_goals simp

@[simp] theorem State.takeBack_frame (n : Nat) (t : Task) :
    (s.takeBack n t).pending = s.pending ∧ (s.takeBack n t).supply = s.supply ∧ (s.takeBack n t).cond = s.cond ∧
    (s.takeBack n t).cause = s.cause ∧ (s.takeBack n t).strap = s.strap ∧ (s.takeBack n t).ports = s.ports ∧
    (s.takeBack n t).stocktake = s.stocktake ∧ (s.takeBack n t).arrivals = s.arrivals ∧ (s.takeBack n t).waiting = s.waiting ∧
    (s.takeBack n t).returns = s.returns ∧ (s.takeBack n t).planQueue = s.planQueue ∧ (s.takeBack n t).lastId = s.lastId ∧
    (s.takeBack n t).shipLog = s.shipLog ∧ (s.takeBack n t).clock = s.clock ∧ (s.takeBack n t).wet = s.wet ∧
    (s.takeBack n t).working = s.working ∧ (s.takeBack n t).stored = s.stored ∧ (s.takeBack n t).writeList = s.writeList ∧
    (s.takeBack n t).writing = s.writing ∧ (s.takeBack n t).retained = s.retained := by
  simp only [State.takeBack]
  repeat' split
  all_goals simp

end Sys2Proof.Machine
end

