-- ==== Sys2Proof/Laws/Frame4.lean ====
section
/-! SUPPORT. What each shared operation leaves unchanged: one frame for each, and one lemma for each field of it. -/
namespace Sys2Proof.Machine

variable (s : State)

@[simp] theorem State.foldl_erasePack_frame (l : List Nat) :
    (l.foldl State.erasePack s).pending = s.pending ∧ (l.foldl State.erasePack s).supply = s.supply ∧
    (l.foldl State.erasePack s).cond = s.cond ∧ (l.foldl State.erasePack s).cause = s.cause ∧
    (l.foldl State.erasePack s).strap = s.strap ∧ (l.foldl State.erasePack s).ports = s.ports ∧
    (l.foldl State.erasePack s).stackMap = s.stackMap ∧ (l.foldl State.erasePack s).touches = s.touches ∧
    (l.foldl State.erasePack s).backlog = s.backlog ∧ (l.foldl State.erasePack s).stocktake = s.stocktake ∧
    (l.foldl State.erasePack s).deck = s.deck ∧ (l.foldl State.erasePack s).trucks = s.trucks ∧
    (l.foldl State.erasePack s).arrivals = s.arrivals ∧ (l.foldl State.erasePack s).waiting = s.waiting ∧
    (l.foldl State.erasePack s).returns = s.returns ∧ (l.foldl State.erasePack s).planQueue = s.planQueue ∧
    (l.foldl State.erasePack s).plan = s.plan ∧ (l.foldl State.erasePack s).tasks = s.tasks ∧
    (l.foldl State.erasePack s).lastId = s.lastId ∧ (l.foldl State.erasePack s).loaders = s.loaders ∧
    (l.foldl State.erasePack s).shipLog = s.shipLog ∧ (l.foldl State.erasePack s).flags = s.flags ∧
    (l.foldl State.erasePack s).pins = s.pins ∧ (l.foldl State.erasePack s).clock = s.clock ∧
    (l.foldl State.erasePack s).wet = s.wet ∧ (l.foldl State.erasePack s).working = s.working ∧
    (l.foldl State.erasePack s).stored = s.stored ∧ (l.foldl State.erasePack s).writeList = s.writeList ∧
    (l.foldl State.erasePack s).writing = s.writing ∧ (l.foldl State.erasePack s).retained = s.retained ∧
    (l.foldl State.erasePack s).marks = s.marks := by
  refine ⟨foldl_field (·.pending) _ (fun s a => by simp) _ s, foldl_field (·.supply) _ (fun s a => by simp) _ s, foldl_field (·.cond) _ (fun s a => by simp) _ s, foldl_field (·.cause) _ (fun s a => by simp) _ s, foldl_field (·.strap) _ (fun s a => by simp) _ s, foldl_field (·.ports) _ (fun s a => by simp) _ s, foldl_field (·.stackMap) _ (fun s a => by simp) _ s, foldl_field (·.touches) _ (fun s a => by simp) _ s, foldl_field (·.backlog) _ (fun s a => by simp) _ s, foldl_field (·.stocktake) _ (fun s a => by simp) _ s, foldl_field (·.deck) _ (fun s a => by simp) _ s, foldl_field (·.trucks) _ (fun s a => by simp) _ s, foldl_field (·.arrivals) _ (fun s a => by simp) _ s, foldl_field (·.waiting) _ (fun s a => by simp) _ s, foldl_field (·.returns) _ (fun s a => by simp) _ s, foldl_field (·.planQueue) _ (fun s a => by simp) _ s, foldl_field (·.plan) _ (fun s a => by simp) _ s, foldl_field (·.tasks) _ (fun s a => by simp) _ s, foldl_field (·.lastId) _ (fun s a => by simp) _ s, foldl_field (·.loaders) _ (fun s a => by simp) _ s, foldl_field (·.shipLog) _ (fun s a => by simp) _ s, foldl_field (·.flags) _ (fun s a => by simp) _ s, foldl_field (·.pins) _ (fun s a => by simp) _ s, foldl_field (·.clock) _ (fun s a => by simp) _ s, foldl_field (·.wet) _ (fun s a => by simp) _ s, foldl_field (·.working) _ (fun s a => by simp) _ s, foldl_field (·.stored) _ (fun s a => by simp) _ s, foldl_field (·.writeList) _ (fun s a => by simp) _ s, foldl_field (·.writing) _ (fun s a => by simp) _ s, foldl_field (·.retained) _ (fun s a => by simp) _ s, foldl_field (·.marks) _ (fun s a => by simp) _ s⟩
@[simp] theorem State.foldl_orphan_frame (l : List Nat) :
    (l.foldl State.orphan s).pending = s.pending ∧ (l.foldl State.orphan s).supply = s.supply ∧
    (l.foldl State.orphan s).cond = s.cond ∧ (l.foldl State.orphan s).cause = s.cause ∧
    (l.foldl State.orphan s).strap = s.strap ∧ (l.foldl State.orphan s).ports = s.ports ∧
    (l.foldl State.orphan s).stackMap = s.stackMap ∧ (l.foldl State.orphan s).touches = s.touches ∧
    (l.foldl State.orphan s).backlog = s.backlog ∧ (l.foldl State.orphan s).stocktake = s.stocktake ∧
    (l.foldl State.orphan s).deck = s.deck ∧ (l.foldl State.orphan s).trucks = s.trucks ∧
    (l.foldl State.orphan s).arrivals = s.arrivals ∧ (l.foldl State.orphan s).waiting = s.waiting ∧
    (l.foldl State.orphan s).returns = s.returns ∧ (l.foldl State.orphan s).planQueue = s.planQueue ∧
    (l.foldl State.orphan s).plan = s.plan ∧ (l.foldl State.orphan s).tasks = s.tasks ∧
    (l.foldl State.orphan s).lastId = s.lastId ∧ (l.foldl State.orphan s).loaders = s.loaders ∧
    (l.foldl State.orphan s).shipLog = s.shipLog ∧ (l.foldl State.orphan s).flags = s.flags ∧
    (l.foldl State.orphan s).pins = s.pins ∧ (l.foldl State.orphan s).clock = s.clock ∧ (l.foldl State.orphan s).wet = s.wet ∧
    (l.foldl State.orphan s).working = s.working ∧ (l.foldl State.orphan s).stored = s.stored ∧
    (l.foldl State.orphan s).writeList = s.writeList ∧ (l.foldl State.orphan s).writing = s.writing ∧
    (l.foldl State.orphan s).retained = s.retained ∧ (l.foldl State.orphan s).marks = s.marks := by
  refine ⟨foldl_field (·.pending) _ (fun s a => by simp) _ s, foldl_field (·.supply) _ (fun s a => by simp) _ s, foldl_field (·.cond) _ (fun s a => by simp) _ s, foldl_field (·.cause) _ (fun s a => by simp) _ s, foldl_field (·.strap) _ (fun s a => by simp) _ s, foldl_field (·.ports) _ (fun s a => by simp) _ s, foldl_field (·.stackMap) _ (fun s a => by simp) _ s, foldl_field (·.touches) _ (fun s a => by simp) _ s, foldl_field (·.backlog) _ (fun s a => by simp) _ s, foldl_field (·.stocktake) _ (fun s a => by simp) _ s, foldl_field (·.deck) _ (fun s a => by simp) _ s, foldl_field (·.trucks) _ (fun s a => by simp) _ s, foldl_field (·.arrivals) _ (fun s a => by simp) _ s, foldl_field (·.waiting) _ (fun s a => by simp) _ s, foldl_field (·.returns) _ (fun s a => by simp) _ s, foldl_field (·.planQueue) _ (fun s a => by simp) _ s, foldl_field (·.plan) _ (fun s a => by simp) _ s, foldl_field (·.tasks) _ (fun s a => by simp) _ s, foldl_field (·.lastId) _ (fun s a => by simp) _ s, foldl_field (·.loaders) _ (fun s a => by simp) _ s, foldl_field (·.shipLog) _ (fun s a => by simp) _ s, foldl_field (·.flags) _ (fun s a => by simp) _ s, foldl_field (·.pins) _ (fun s a => by simp) _ s, foldl_field (·.clock) _ (fun s a => by simp) _ s, foldl_field (·.wet) _ (fun s a => by simp) _ s, foldl_field (·.working) _ (fun s a => by simp) _ s, foldl_field (·.stored) _ (fun s a => by simp) _ s, foldl_field (·.writeList) _ (fun s a => by simp) _ s, foldl_field (·.writing) _ (fun s a => by simp) _ s, foldl_field (·.retained) _ (fun s a => by simp) _ s, foldl_field (·.marks) _ (fun s a => by simp) _ s⟩

@[simp] theorem State.attach_frame (slot i : Nat) :
    (State.attach slot s i).pending = s.pending ∧ (State.attach slot s i).supply = s.supply ∧
    (State.attach slot s i).cond = s.cond ∧ (State.attach slot s i).cause = s.cause ∧ (State.attach slot s i).strap = s.strap ∧
    (State.attach slot s i).ports = s.ports ∧ (State.attach slot s i).stackMap = s.stackMap ∧
    (State.attach slot s i).touches = s.touches ∧ (State.attach slot s i).backlog = s.backlog ∧
    (State.attach slot s i).stocktake = s.stocktake ∧ (State.attach slot s i).deck = s.deck ∧
    (State.attach slot s i).arrivals = s.arrivals ∧ (State.attach slot s i).waiting = s.waiting ∧
    (State.attach slot s i).returns = s.returns ∧ (State.attach slot s i).planQueue = s.planQueue ∧
    (State.attach slot s i).plan = s.plan ∧ (State.attach slot s i).tasks = s.tasks ∧
    (State.attach slot s i).lastId = s.lastId ∧ (State.attach slot s i).loaders = s.loaders ∧
    (State.attach slot s i).shipLog = s.shipLog ∧ (State.attach slot s i).flags = s.flags ∧
    (State.attach slot s i).pins = s.pins ∧ (State.attach slot s i).clock = s.clock ∧ (State.attach slot s i).wet = s.wet ∧
    (State.attach slot s i).working = s.working ∧ (State.attach slot s i).stored = s.stored ∧
    (State.attach slot s i).writeList = s.writeList ∧ (State.attach slot s i).writing = s.writing ∧
    (State.attach slot s i).retained = s.retained ∧ (State.attach slot s i).marks = s.marks := by
  simp only [State.attach]
  repeat' split
  all_goals simp
@[simp] theorem State.foldl_attach_frame (slot : Nat) (l : List Nat) :
    (l.foldl (State.attach slot) s).pending = s.pending ∧ (l.foldl (State.attach slot) s).supply = s.supply ∧
    (l.foldl (State.attach slot) s).cond = s.cond ∧ (l.foldl (State.attach slot) s).cause = s.cause ∧
    (l.foldl (State.attach slot) s).strap = s.strap ∧ (l.foldl (State.attach slot) s).ports = s.ports ∧
    (l.foldl (State.attach slot) s).stackMap = s.stackMap ∧ (l.foldl (State.attach slot) s).touches = s.touches ∧
    (l.foldl (State.attach slot) s).backlog = s.backlog ∧ (l.foldl (State.attach slot) s).stocktake = s.stocktake ∧
    (l.foldl (State.attach slot) s).deck = s.deck ∧ (l.foldl (State.attach slot) s).arrivals = s.arrivals ∧
    (l.foldl (State.attach slot) s).waiting = s.waiting ∧ (l.foldl (State.attach slot) s).returns = s.returns ∧
    (l.foldl (State.attach slot) s).planQueue = s.planQueue ∧ (l.foldl (State.attach slot) s).plan = s.plan ∧
    (l.foldl (State.attach slot) s).tasks = s.tasks ∧ (l.foldl (State.attach slot) s).lastId = s.lastId ∧
    (l.foldl (State.attach slot) s).loaders = s.loaders ∧ (l.foldl (State.attach slot) s).shipLog = s.shipLog ∧
    (l.foldl (State.attach slot) s).flags = s.flags ∧ (l.foldl (State.attach slot) s).pins = s.pins ∧
    (l.foldl (State.attach slot) s).clock = s.clock ∧ (l.foldl (State.attach slot) s).wet = s.wet ∧
    (l.foldl (State.attach slot) s).working = s.working ∧ (l.foldl (State.attach slot) s).stored = s.stored ∧
    (l.foldl (State.attach slot) s).writeList = s.writeList ∧ (l.foldl (State.attach slot) s).writing = s.writing ∧
    (l.foldl (State.attach slot) s).retained = s.retained ∧ (l.foldl (State.attach slot) s).marks = s.marks := by
  refine ⟨foldl_field (·.pending) _ (fun s a => by simp) _ s, foldl_field (·.supply) _ (fun s a => by simp) _ s, foldl_field (·.cond) _ (fun s a => by simp) _ s, foldl_field (·.cause) _ (fun s a => by simp) _ s, foldl_field (·.strap) _ (fun s a => by simp) _ s, foldl_field (·.ports) _ (fun s a => by simp) _ s, foldl_field (·.stackMap) _ (fun s a => by simp) _ s, foldl_field (·.touches) _ (fun s a => by simp) _ s, foldl_field (·.backlog) _ (fun s a => by simp) _ s, foldl_field (·.stocktake) _ (fun s a => by simp) _ s, foldl_field (·.deck) _ (fun s a => by simp) _ s, foldl_field (·.arrivals) _ (fun s a => by simp) _ s, foldl_field (·.waiting) _ (fun s a => by simp) _ s, foldl_field (·.returns) _ (fun s a => by simp) _ s, foldl_field (·.planQueue) _ (fun s a => by simp) _ s, foldl_field (·.plan) _ (fun s a => by simp) _ s, foldl_field (·.tasks) _ (fun s a => by simp) _ s, foldl_field (·.lastId) _ (fun s a => by simp) _ s, foldl_field (·.loaders) _ (fun s a => by simp) _ s, foldl_field (·.shipLog) _ (fun s a => by simp) _ s, foldl_field (·.flags) _ (fun s a => by simp) _ s, foldl_field (·.pins) _ (fun s a => by simp) _ s, foldl_field (·.clock) _ (fun s a => by simp) _ s, foldl_field (·.wet) _ (fun s a => by simp) _ s, foldl_field (·.working) _ (fun s a => by simp) _ s, foldl_field (·.stored) _ (fun s a => by simp) _ s, foldl_field (·.writeList) _ (fun s a => by simp) _ s, foldl_field (·.writing) _ (fun s a => by simp) _ s, foldl_field (·.retained) _ (fun s a => by simp) _ s, foldl_field (·.marks) _ (fun s a => by simp) _ s⟩

@[simp] theorem State.enterTruck_frame (slot : Nat) (r : ArriveReq) :
    (s.enterTruck slot r).pending = s.pending ∧ (s.enterTruck slot r).supply = s.supply ∧ (s.enterTruck slot r).cond = s.cond ∧
    (s.enterTruck slot r).cause = s.cause ∧ (s.enterTruck slot r).strap = s.strap ∧ (s.enterTruck slot r).ports = s.ports ∧
    (s.enterTruck slot r).stackMap = s.stackMap ∧ (s.enterTruck slot r).touches = s.touches ∧
    (s.enterTruck slot r).backlog = s.backlog ∧ (s.enterTruck slot r).stocktake = s.stocktake ∧
    (s.enterTruck slot r).deck = s.deck ∧ (s.enterTruck slot r).waiting = s.waiting ∧
    (s.enterTruck slot r).returns = s.returns ∧ (s.enterTruck slot r).planQueue = s.planQueue ∧
    (s.enterTruck slot r).plan = s.plan ∧ (s.enterTruck slot r).tasks = s.tasks ∧ (s.enterTruck slot r).lastId = s.lastId ∧
    (s.enterTruck slot r).loaders = s.loaders ∧ (s.enterTruck slot r).shipLog = s.shipLog ∧
    (s.enterTruck slot r).flags = s.flags ∧ (s.enterTruck slot r).pins = s.pins ∧ (s.enterTruck slot r).clock = s.clock ∧
    (s.enterTruck slot r).wet = s.wet ∧ (s.enterTruck slot r).working = s.working ∧ (s.enterTruck slot r).stored = s.stored ∧
    (s.enterTruck slot r).writeList = s.writeList ∧ (s.enterTruck slot r).writing = s.writing ∧
    (s.enterTruck slot r).retained = s.retained ∧ (s.enterTruck slot r).marks = s.marks := by
  simp only [State.enterTruck]
  all_goals simp

@[simp] theorem State.queueTruck_frame (slot : Nat) :
    (s.queueTruck slot).pending = s.pending ∧ (s.queueTruck slot).supply = s.supply ∧ (s.queueTruck slot).cond = s.cond ∧
    (s.queueTruck slot).cause = s.cause ∧ (s.queueTruck slot).strap = s.strap ∧ (s.queueTruck slot).ports = s.ports ∧
    (s.queueTruck slot).packs = s.packs ∧ (s.queueTruck slot).stackMap = s.stackMap ∧ (s.queueTruck slot).touches = s.touches ∧
    (s.queueTruck slot).backlog = s.backlog ∧ (s.queueTruck slot).stocktake = s.stocktake ∧ (s.queueTruck slot).deck = s.deck ∧
    (s.queueTruck slot).trucks = s.trucks ∧ (s.queueTruck slot).arrivals = s.arrivals ∧
    (s.queueTruck slot).returns = s.returns ∧ (s.queueTruck slot).planQueue = s.planQueue ∧ (s.queueTruck slot).plan = s.plan ∧
    (s.queueTruck slot).tasks = s.tasks ∧ (s.queueTruck slot).lastId = s.lastId ∧ (s.queueTruck slot).loaders = s.loaders ∧
    (s.queueTruck slot).shipLog = s.shipLog ∧ (s.queueTruck slot).flags = s.flags ∧ (s.queueTruck slot).pins = s.pins ∧
    (s.queueTruck slot).clock = s.clock ∧ (s.queueTruck slot).wet = s.wet ∧ (s.queueTruck slot).working = s.working ∧
    (s.queueTruck slot).stored = s.stored ∧ (s.queueTruck slot).writeList = s.writeList ∧
    (s.queueTruck slot).writing = s.writing ∧ (s.queueTruck slot).retained = s.retained := by
  simp only [State.queueTruck]
  repeat' split
  all_goals simp

@[simp] theorem State.releaseTruck_frame (slot : Nat) (t : Truck) (w : WeighResult) :
    (s.releaseTruck slot t w).pending = s.pending ∧ (s.releaseTruck slot t w).supply = s.supply ∧
    (s.releaseTruck slot t w).cond = s.cond ∧ (s.releaseTruck slot t w).cause = s.cause ∧
    (s.releaseTruck slot t w).strap = s.strap ∧ (s.releaseTruck slot t w).ports = s.ports ∧
    (s.releaseTruck slot t w).packs = s.packs ∧ (s.releaseTruck slot t w).stackMap = s.stackMap ∧
    (s.releaseTruck slot t w).touches = s.touches ∧ (s.releaseTruck slot t w).backlog = s.backlog ∧
    (s.releaseTruck slot t w).stocktake = s.stocktake ∧ (s.releaseTruck slot t w).deck = s.deck ∧
    (s.releaseTruck slot t w).arrivals = s.arrivals ∧ (s.releaseTruck slot t w).waiting = s.waiting ∧
    (s.releaseTruck slot t w).returns = s.returns ∧ (s.releaseTruck slot t w).planQueue = s.planQueue ∧
    (s.releaseTruck slot t w).plan = s.plan ∧ (s.releaseTruck slot t w).tasks = s.tasks ∧
    (s.releaseTruck slot t w).lastId = s.lastId ∧ (s.releaseTruck slot t w).loaders = s.loaders ∧
    (s.releaseTruck slot t w).pins = s.pins ∧ (s.releaseTruck slot t w).clock = s.clock ∧
    (s.releaseTruck slot t w).wet = s.wet ∧ (s.releaseTruck slot t w).working = s.working ∧
    (s.releaseTruck slot t w).stored = s.stored ∧ (s.releaseTruck slot t w).writeList = s.writeList ∧
    (s.releaseTruck slot t w).writing = s.writing ∧ (s.releaseTruck slot t w).retained = s.retained := by
  simp only [State.releaseTruck]
  all_goals simp

@[simp] theorem State.unloadTruck_frame (slot : Nat) (t : Truck) (w : WeighResult) (l : List Nat) :
    (s.unloadTruck slot t w l).pending = s.pending ∧ (s.unloadTruck slot t w l).supply = s.supply ∧
    (s.unloadTruck slot t w l).cond = s.cond ∧ (s.unloadTruck slot t w l).cause = s.cause ∧
    (s.unloadTruck slot t w l).strap = s.strap ∧ (s.unloadTruck slot t w l).ports = s.ports ∧
    (s.unloadTruck slot t w l).packs = s.packs ∧ (s.unloadTruck slot t w l).stackMap = s.stackMap ∧
    (s.unloadTruck slot t w l).touches = s.touches ∧ (s.unloadTruck slot t w l).backlog = s.backlog ∧
    (s.unloadTruck slot t w l).stocktake = s.stocktake ∧ (s.unloadTruck slot t w l).deck = s.deck ∧
    (s.unloadTruck slot t w l).arrivals = s.arrivals ∧ (s.unloadTruck slot t w l).waiting = s.waiting ∧
    (s.unloadTruck slot t w l).planQueue = s.planQueue ∧ (s.unloadTruck slot t w l).plan = s.plan ∧
    (s.unloadTruck slot t w l).tasks = s.tasks ∧ (s.unloadTruck slot t w l).lastId = s.lastId ∧
    (s.unloadTruck slot t w l).loaders = s.loaders ∧ (s.unloadTruck slot t w l).shipLog = s.shipLog ∧
    (s.unloadTruck slot t w l).pins = s.pins ∧ (s.unloadTruck slot t w l).clock = s.clock ∧
    (s.unloadTruck slot t w l).wet = s.wet ∧ (s.unloadTruck slot t w l).working = s.working ∧
    (s.unloadTruck slot t w l).stored = s.stored ∧ (s.unloadTruck slot t w l).writeList = s.writeList ∧
    (s.unloadTruck slot t w l).writing = s.writing ∧ (s.unloadTruck slot t w l).retained = s.retained := by
  simp only [State.unloadTruck]
  all_goals simp

@[simp] theorem State.markTare_frame (slot : Nat) (t : Truck) (w : WeighResult) :
    (s.markTare slot t w).pending = s.pending ∧ (s.markTare slot t w).supply = s.supply ∧ (s.markTare slot t w).cond = s.cond ∧
    (s.markTare slot t w).cause = s.cause ∧ (s.markTare slot t w).strap = s.strap ∧ (s.markTare slot t w).ports = s.ports ∧
    (s.markTare slot t w).packs = s.packs ∧ (s.markTare slot t w).stackMap = s.stackMap ∧
    (s.markTare slot t w).touches = s.touches ∧ (s.markTare slot t w).backlog = s.backlog ∧
    (s.markTare slot t w).stocktake = s.stocktake ∧ (s.markTare slot t w).deck = s.deck ∧
    (s.markTare slot t w).arrivals = s.arrivals ∧ (s.markTare slot t w).waiting = s.waiting ∧
    (s.markTare slot t w).returns = s.returns ∧ (s.markTare slot t w).planQueue = s.planQueue ∧
    (s.markTare slot t w).plan = s.plan ∧ (s.markTare slot t w).tasks = s.tasks ∧ (s.markTare slot t w).lastId = s.lastId ∧
    (s.markTare slot t w).loaders = s.loaders ∧ (s.markTare slot t w).shipLog = s.shipLog ∧
    (s.markTare slot t w).pins = s.pins ∧ (s.markTare slot t w).clock = s.clock ∧ (s.markTare slot t w).wet = s.wet ∧
    (s.markTare slot t w).working = s.working ∧ (s.markTare slot t w).stored = s.stored ∧
    (s.markTare slot t w).writeList = s.writeList ∧ (s.markTare slot t w).writing = s.writing ∧
    (s.markTare slot t w).retained = s.retained ∧ (s.markTare slot t w).marks = s.marks := by
  simp only [State.markTare]
  all_goals simp

@[simp] theorem State.withdraw_frame (t : Task) :
    (s.withdraw t).pending = s.pending ∧ (s.withdraw t).supply = s.supply ∧ (s.withdraw t).cond = s.cond ∧
    (s.withdraw t).cause = s.cause ∧ (s.withdraw t).strap = s.strap ∧ (s.withdraw t).ports = s.ports ∧
    (s.withdraw t).stackMap = s.stackMap ∧ (s.withdraw t).stocktake = s.stocktake ∧ (s.withdraw t).deck = s.deck ∧
    (s.withdraw t).arrivals = s.arrivals ∧ (s.withdraw t).waiting = s.waiting ∧ (s.withdraw t).returns = s.returns ∧
    (s.withdraw t).planQueue = s.planQueue ∧ (s.withdraw t).lastId = s.lastId ∧ (s.withdraw t).shipLog = s.shipLog ∧
    (s.withdraw t).flags = s.flags ∧ (s.withdraw t).pins = s.pins ∧ (s.withdraw t).clock = s.clock ∧
    (s.withdraw t).wet = s.wet ∧ (s.withdraw t).working = s.working ∧ (s.withdraw t).stored = s.stored ∧
    (s.withdraw t).writeList = s.writeList ∧ (s.withdraw t).writing = s.writing ∧ (s.withdraw t).retained = s.retained := by
  simp only [State.withdraw]
  repeat' split
  all_goals simp
@[simp] theorem State.foldl_withdraw_frame (l : List Task) :
    (l.foldl State.withdraw s).pending = s.pending ∧ (l.foldl State.withdraw s).supply = s.supply ∧
    (l.foldl State.withdraw s).cond = s.cond ∧ (l.foldl State.withdraw s).cause = s.cause ∧
    (l.foldl State.withdraw s).strap = s.strap ∧ (l.foldl State.withdraw s).ports = s.ports ∧
    (l.foldl State.withdraw s).stackMap = s.stackMap ∧ (l.foldl State.withdraw s).stocktake = s.stocktake ∧
    (l.foldl State.withdraw s).deck = s.deck ∧ (l.foldl State.withdraw s).arrivals = s.arrivals ∧
    (l.foldl State.withdraw s).waiting = s.waiting ∧ (l.foldl State.withdraw s).returns = s.returns ∧
    (l.foldl State.withdraw s).planQueue = s.planQueue ∧ (l.foldl State.withdraw s).lastId = s.lastId ∧
    (l.foldl State.withdraw s).shipLog = s.shipLog ∧ (l.foldl State.withdraw s).flags = s.flags ∧
    (l.foldl State.withdraw s).pins = s.pins ∧ (l.foldl State.withdraw s).clock = s.clock ∧
    (l.foldl State.withdraw s).wet = s.wet ∧ (l.foldl State.withdraw s).working = s.working ∧
    (l.foldl State.withdraw s).stored = s.stored ∧ (l.foldl State.withdraw s).writeList = s.writeList ∧
    (l.foldl State.withdraw s).writing = s.writing ∧ (l.foldl State.withdraw s).retained = s.retained := by
  refine ⟨foldl_field (·.pending) _ (fun s a => by simp) _ s, foldl_field (·.supply) _ (fun s a => by simp) _ s, foldl_field (·.cond) _ (fun s a => by simp) _ s, foldl_field (·.cause) _ (fun s a => by simp) _ s, foldl_field (·.strap) _ (fun s a => by simp) _ s, foldl_field (·.ports) _ (fun s a => by simp) _ s, foldl_field (·.stackMap) _ (fun s a => by simp) _ s, foldl_field (·.stocktake) _ (fun s a => by simp) _ s, foldl_field (·.deck) _ (fun s a => by simp) _ s, foldl_field (·.arrivals) _ (fun s a => by simp) _ s, foldl_field (·.waiting) _ (fun s a => by simp) _ s, foldl_field (·.returns) _ (fun s a => by simp) _ s, foldl_field (·.planQueue) _ (fun s a => by simp) _ s, foldl_field (·.lastId) _ (fun s a => by simp) _ s, foldl_field (·.shipLog) _ (fun s a => by simp) _ s, foldl_field (·.flags) _ (fun s a => by simp) _ s, foldl_field (·.pins) _ (fun s a => by simp) _ s, foldl_field (·.clock) _ (fun s a => by simp) _ s, foldl_field (·.wet) _ (fun s a => by simp) _ s, foldl_field (·.working) _ (fun s a => by simp) _ s, foldl_field (·.stored) _ (fun s a => by simp) _ s, foldl_field (·.writeList) _ (fun s a => by simp) _ s, foldl_field (·.writing) _ (fun s a => by simp) _ s, foldl_field (·.retained) _ (fun s a => by simp) _ s⟩

@[simp] theorem State.shipLoad_frame (l : List Nat) :
    (s.shipLoad l).pending = s.pending ∧ (s.shipLoad l).supply = s.supply ∧ (s.shipLoad l).cond = s.cond ∧
    (s.shipLoad l).cause = s.cause ∧ (s.shipLoad l).strap = s.strap ∧ (s.shipLoad l).ports = s.ports ∧
    (s.shipLoad l).stackMap = s.stackMap ∧ (s.shipLoad l).touches = s.touches ∧ (s.shipLoad l).backlog = s.backlog ∧
    (s.shipLoad l).stocktake = s.stocktake ∧ (s.shipLoad l).deck = s.deck ∧ (s.shipLoad l).trucks = s.trucks ∧
    (s.shipLoad l).arrivals = s.arrivals ∧ (s.shipLoad l).waiting = s.waiting ∧ (s.shipLoad l).returns = s.returns ∧
    (s.shipLoad l).planQueue = s.planQueue ∧ (s.shipLoad l).plan = s.plan ∧ (s.shipLoad l).tasks = s.tasks ∧
    (s.shipLoad l).lastId = s.lastId ∧ (s.shipLoad l).loaders = s.loaders ∧ (s.shipLoad l).shipLog = s.shipLog ∧
    (s.shipLoad l).flags = s.flags ∧ (s.shipLoad l).pins = s.pins ∧ (s.shipLoad l).clock = s.clock ∧
    (s.shipLoad l).wet = s.wet ∧ (s.shipLoad l).working = s.working ∧ (s.shipLoad l).stored = s.stored ∧
    (s.shipLoad l).writeList = s.writeList ∧ (s.shipLoad l).writing = s.writing ∧ (s.shipLoad l).retained = s.retained ∧
    (s.shipLoad l).marks = s.marks := by
  refine ⟨foldl_field (·.pending) _ (fun s a => by simp) _ s, foldl_field (·.supply) _ (fun s a => by simp) _ s, foldl_field (·.cond) _ (fun s a => by simp) _ s, foldl_field (·.cause) _ (fun s a => by simp) _ s, foldl_field (·.strap) _ (fun s a => by simp) _ s, foldl_field (·.ports) _ (fun s a => by simp) _ s, foldl_field (·.stackMap) _ (fun s a => by simp) _ s, foldl_field (·.touches) _ (fun s a => by simp) _ s, foldl_field (·.backlog) _ (fun s a => by simp) _ s, foldl_field (·.stocktake) _ (fun s a => by simp) _ s, foldl_field (·.deck) _ (fun s a => by simp) _ s, foldl_field (·.trucks) _ (fun s a => by simp) _ s, foldl_field (·.arrivals) _ (fun s a => by simp) _ s, foldl_field (·.waiting) _ (fun s a => by simp) _ s, foldl_field (·.returns) _ (fun s a => by simp) _ s, foldl_field (·.planQueue) _ (fun s a => by simp) _ s, foldl_field (·.plan) _ (fun s a => by simp) _ s, foldl_field (·.tasks) _ (fun s a => by simp) _ s, foldl_field (·.lastId) _ (fun s a => by simp) _ s, foldl_field (·.loaders) _ (fun s a => by simp) _ s, foldl_field (·.shipLog) _ (fun s a => by simp) _ s, foldl_field (·.flags) _ (fun s a => by simp) _ s, foldl_field (·.pins) _ (fun s a => by simp) _ s, foldl_field (·.clock) _ (fun s a => by simp) _ s, foldl_field (·.wet) _ (fun s a => by simp) _ s, foldl_field (·.working) _ (fun s a => by simp) _ s, foldl_field (·.stored) _ (fun s a => by simp) _ s, foldl_field (·.writeList) _ (fun s a => by simp) _ s, foldl_field (·.writing) _ (fun s a => by simp) _ s, foldl_field (·.retained) _ (fun s a => by simp) _ s, foldl_field (·.marks) _ (fun s a => by simp) _ s⟩

@[simp] theorem State.depart_frame (slot : Nat) (t : Truck) :
    (s.depart slot t).pending = s.pending ∧ (s.depart slot t).supply = s.supply ∧ (s.depart slot t).cond = s.cond ∧
    (s.depart slot t).cause = s.cause ∧ (s.depart slot t).strap = s.strap ∧ (s.depart slot t).ports = s.ports ∧
    (s.depart slot t).stackMap = s.stackMap ∧ (s.depart slot t).touches = s.touches ∧ (s.depart slot t).backlog = s.backlog ∧
    (s.depart slot t).stocktake = s.stocktake ∧ (s.depart slot t).deck = s.deck ∧ (s.depart slot t).arrivals = s.arrivals ∧
    (s.depart slot t).lastId = s.lastId ∧ (s.depart slot t).loaders = s.loaders ∧ (s.depart slot t).shipLog = s.shipLog ∧
    (s.depart slot t).flags = s.flags ∧ (s.depart slot t).pins = s.pins ∧ (s.depart slot t).clock = s.clock ∧
    (s.depart slot t).wet = s.wet ∧ (s.depart slot t).working = s.working ∧ (s.depart slot t).stored = s.stored ∧
    (s.depart slot t).writeList = s.writeList ∧ (s.depart slot t).writing = s.writing ∧
    (s.depart slot t).retained = s.retained := by
  simp only [State.depart]
  all_goals simp

@[simp] theorem State.releasePicks_frame (slot : Nat) :
    (s.releasePicks slot).pending = s.pending ∧ (s.releasePicks slot).supply = s.supply ∧ (s.releasePicks slot).cond = s.cond ∧
    (s.releasePicks slot).cause = s.cause ∧ (s.releasePicks slot).strap = s.strap ∧ (s.releasePicks slot).ports = s.ports ∧
    (s.releasePicks slot).stackMap = s.stackMap ∧ (s.releasePicks slot).touches = s.touches ∧
    (s.releasePicks slot).backlog = s.backlog ∧ (s.releasePicks slot).stocktake = s.stocktake ∧
    (s.releasePicks slot).deck = s.deck ∧ (s.releasePicks slot).arrivals = s.arrivals ∧
    (s.releasePicks slot).waiting = s.waiting ∧ (s.releasePicks slot).returns = s.returns ∧
    (s.releasePicks slot).planQueue = s.planQueue ∧ (s.releasePicks slot).tasks = s.tasks ∧
    (s.releasePicks slot).lastId = s.lastId ∧ (s.releasePicks slot).loaders = s.loaders ∧
    (s.releasePicks slot).shipLog = s.shipLog ∧ (s.releasePicks slot).flags = s.flags ∧ (s.releasePicks slot).pins = s.pins ∧
    (s.releasePicks slot).clock = s.clock ∧ (s.releasePicks slot).wet = s.wet ∧ (s.releasePicks slot).working = s.working ∧
    (s.releasePicks slot).stored = s.stored ∧ (s.releasePicks slot).writeList = s.writeList ∧
    (s.releasePicks slot).writing = s.writing ∧ (s.releasePicks slot).retained = s.retained := by
  simp only [State.releasePicks]
  repeat' split
  all_goals simp

@[simp] theorem State.letGo_frame (t : Task) :
    (s.letGo t).pending = s.pending ∧ (s.letGo t).supply = s.supply ∧ (s.letGo t).cond = s.cond ∧ (s.letGo t).cause = s.cause ∧
    (s.letGo t).strap = s.strap ∧ (s.letGo t).ports = s.ports ∧ (s.letGo t).stackMap = s.stackMap ∧
    (s.letGo t).touches = s.touches ∧ (s.letGo t).backlog = s.backlog ∧ (s.letGo t).stocktake = s.stocktake ∧
    (s.letGo t).deck = s.deck ∧ (s.letGo t).arrivals = s.arrivals ∧ (s.letGo t).waiting = s.waiting ∧
    (s.letGo t).returns = s.returns ∧ (s.letGo t).planQueue = s.planQueue ∧ (s.letGo t).lastId = s.lastId ∧
    (s.letGo t).loaders = s.loaders ∧ (s.letGo t).shipLog = s.shipLog ∧ (s.letGo t).flags = s.flags ∧
    (s.letGo t).pins = s.pins ∧ (s.letGo t).clock = s.clock ∧ (s.letGo t).wet = s.wet ∧ (s.letGo t).working = s.working ∧
    (s.letGo t).stored = s.stored ∧ (s.letGo t).writeList = s.writeList ∧ (s.letGo t).writing = s.writing ∧
    (s.letGo t).retained = s.retained := by
  simp only [State.letGo]
  repeat' split
  all_goals simp
@[simp] theorem State.foldl_letGo_frame (l : List Task) :
    (l.foldl State.letGo s).pending = s.pending ∧ (l.foldl State.letGo s).supply = s.supply ∧
    (l.foldl State.letGo s).cond = s.cond ∧ (l.foldl State.letGo s).cause = s.cause ∧ (l.foldl State.letGo s).strap = s.strap ∧
    (l.foldl State.letGo s).ports = s.ports ∧ (l.foldl State.letGo s).stackMap = s.stackMap ∧
    (l.foldl State.letGo s).touches = s.touches ∧ (l.foldl State.letGo s).backlog = s.backlog ∧
    (l.foldl State.letGo s).stocktake = s.stocktake ∧ (l.foldl State.letGo s).deck = s.deck ∧
    (l.foldl State.letGo s).arrivals = s.arrivals ∧ (l.foldl State.letGo s).waiting = s.waiting ∧
    (l.foldl State.letGo s).returns = s.returns ∧ (l.foldl State.letGo s).planQueue = s.planQueue ∧
    (l.foldl State.letGo s).lastId = s.lastId ∧ (l.foldl State.letGo s).loaders = s.loaders ∧
    (l.foldl State.letGo s).shipLog = s.shipLog ∧ (l.foldl State.letGo s).flags = s.flags ∧
    (l.foldl State.letGo s).pins = s.pins ∧ (l.foldl State.letGo s).clock = s.clock ∧ (l.foldl State.letGo s).wet = s.wet ∧
    (l.foldl State.letGo s).working = s.working ∧ (l.foldl State.letGo s).stored = s.stored ∧
    (l.foldl State.letGo s).writeList = s.writeList ∧ (l.foldl State.letGo s).writing = s.writing ∧
    (l.foldl State.letGo s).retained = s.retained := by
  refine ⟨foldl_field (·.pending) _ (fun s a => by simp) _ s, foldl_field (·.supply) _ (fun s a => by simp) _ s, foldl_field (·.cond) _ (fun s a => by simp) _ s, foldl_field (·.cause) _ (fun s a => by simp) _ s, foldl_field (·.strap) _ (fun s a => by simp) _ s, foldl_field (·.ports) _ (fun s a => by simp) _ s, foldl_field (·.stackMap) _ (fun s a => by simp) _ s, foldl_field (·.touches) _ (fun s a => by simp) _ s, foldl_field (·.backlog) _ (fun s a => by simp) _ s, foldl_field (·.stocktake) _ (fun s a => by simp) _ s, foldl_field (·.deck) _ (fun s a => by simp) _ s, foldl_field (·.arrivals) _ (fun s a => by simp) _ s, foldl_field (·.waiting) _ (fun s a => by simp) _ s, foldl_field (·.returns) _ (fun s a => by simp) _ s, foldl_field (·.planQueue) _ (fun s a => by simp) _ s, foldl_field (·.lastId) _ (fun s a => by simp) _ s, foldl_field (·.loaders) _ (fun s a => by simp) _ s, foldl_field (·.shipLog) _ (fun s a => by simp) _ s, foldl_field (·.flags) _ (fun s a => by simp) _ s, foldl_field (·.pins) _ (fun s a => by simp) _ s, foldl_field (·.clock) _ (fun s a => by simp) _ s, foldl_field (·.wet) _ (fun s a => by simp) _ s, foldl_field (·.working) _ (fun s a => by simp) _ s, foldl_field (·.stored) _ (fun s a => by simp) _ s, foldl_field (·.writeList) _ (fun s a => by simp) _ s, foldl_field (·.writing) _ (fun s a => by simp) _ s, foldl_field (·.retained) _ (fun s a => by simp) _ s⟩

@[simp] theorem State.stripTruck_frame (slot : Nat) :
    (s.stripTruck slot).pending = s.pending ∧ (s.stripTruck slot).supply = s.supply ∧ (s.stripTruck slot).cond = s.cond ∧
    (s.stripTruck slot).cause = s.cause ∧ (s.stripTruck slot).strap = s.strap ∧ (s.stripTruck slot).ports = s.ports ∧
    (s.stripTruck slot).stackMap = s.stackMap ∧ (s.stripTruck slot).stocktake = s.stocktake ∧ (s.stripTruck slot).deck = s.deck ∧
    (s.stripTruck slot).arrivals = s.arrivals ∧ (s.stripTruck slot).waiting = s.waiting ∧
    (s.stripTruck slot).planQueue = s.planQueue ∧ (s.stripTruck slot).lastId = s.lastId ∧
    (s.stripTruck slot).shipLog = s.shipLog ∧ (s.stripTruck slot).flags = s.flags ∧ (s.stripTruck slot).pins = s.pins ∧
    (s.stripTruck slot).clock = s.clock ∧ (s.stripTruck slot).wet = s.wet ∧ (s.stripTruck slot).working = s.working ∧
    (s.stripTruck slot).stored = s.stored ∧ (s.stripTruck slot).writeList = s.writeList ∧
    (s.stripTruck slot).writing = s.writing ∧ (s.stripTruck slot).retained = s.retained := by
  simp only [State.stripTruck]
  all_goals simp

@[simp] theorem State.logUnderrun_frame (t : Truck) :
    (s.logUnderrun t).pending = s.pending ∧ (s.logUnderrun t).supply = s.supply ∧ (s.logUnderrun t).cond = s.cond ∧
    (s.logUnderrun t).cause = s.cause ∧ (s.logUnderrun t).strap = s.strap ∧ (s.logUnderrun t).ports = s.ports ∧
    (s.logUnderrun t).packs = s.packs ∧ (s.logUnderrun t).stackMap = s.stackMap ∧ (s.logUnderrun t).touches = s.touches ∧
    (s.logUnderrun t).backlog = s.backlog ∧ (s.logUnderrun t).stocktake = s.stocktake ∧ (s.logUnderrun t).deck = s.deck ∧
    (s.logUnderrun t).trucks = s.trucks ∧ (s.logUnderrun t).arrivals = s.arrivals ∧ (s.logUnderrun t).waiting = s.waiting ∧
    (s.logUnderrun t).returns = s.returns ∧ (s.logUnderrun t).planQueue = s.planQueue ∧ (s.logUnderrun t).plan = s.plan ∧
    (s.logUnderrun t).tasks = s.tasks ∧ (s.logUnderrun t).lastId = s.lastId ∧ (s.logUnderrun t).loaders = s.loaders ∧
    (s.logUnderrun t).pins = s.pins ∧ (s.logUnderrun t).clock = s.clock ∧ (s.logUnderrun t).wet = s.wet ∧
    (s.logUnderrun t).working = s.working ∧ (s.logUnderrun t).stored = s.stored ∧ (s.logUnderrun t).writeList = s.writeList ∧
    (s.logUnderrun t).writing = s.writing ∧ (s.logUnderrun t).retained = s.retained ∧ (s.logUnderrun t).marks = s.marks := by
  simp only [State.logUnderrun]
  repeat' split
  all_goals simp

@[simp] theorem State.underrun_frame (slot : Nat) :
    (s.underrun slot).pending = s.pending ∧ (s.underrun slot).supply = s.supply ∧ (s.underrun slot).cond = s.cond ∧
    (s.underrun slot).cause = s.cause ∧ (s.underrun slot).strap = s.strap ∧ (s.underrun slot).ports = s.ports ∧
    (s.underrun slot).stackMap = s.stackMap ∧ (s.underrun slot).stocktake = s.stocktake ∧ (s.underrun slot).deck = s.deck ∧
    (s.underrun slot).arrivals = s.arrivals ∧ (s.underrun slot).lastId = s.lastId ∧ (s.underrun slot).pins = s.pins ∧
    (s.underrun slot).clock = s.clock ∧ (s.underrun slot).wet = s.wet ∧ (s.underrun slot).working = s.working ∧
    (s.underrun slot).stored = s.stored ∧ (s.underrun slot).writeList = s.writeList ∧ (s.underrun slot).writing = s.writing ∧
    (s.underrun slot).retained = s.retained := by
  simp only [State.underrun]
  repeat' split
  all_goals simp

@[simp] theorem State.shipOrphans_frame (v : Nat) :
    (s.shipOrphans v).pending = s.pending ∧ (s.shipOrphans v).supply = s.supply ∧ (s.shipOrphans v).cond = s.cond ∧
    (s.shipOrphans v).cause = s.cause ∧ (s.shipOrphans v).strap = s.strap ∧ (s.shipOrphans v).ports = s.ports ∧
    (s.shipOrphans v).stackMap = s.stackMap ∧ (s.shipOrphans v).touches = s.touches ∧ (s.shipOrphans v).backlog = s.backlog ∧
    (s.shipOrphans v).stocktake = s.stocktake ∧ (s.shipOrphans v).deck = s.deck ∧ (s.shipOrphans v).trucks = s.trucks ∧
    (s.shipOrphans v).arrivals = s.arrivals ∧ (s.shipOrphans v).waiting = s.waiting ∧ (s.shipOrphans v).returns = s.returns ∧
    (s.shipOrphans v).planQueue = s.planQueue ∧ (s.shipOrphans v).plan = s.plan ∧ (s.shipOrphans v).tasks = s.tasks ∧
    (s.shipOrphans v).lastId = s.lastId ∧ (s.shipOrphans v).loaders = s.loaders ∧ (s.shipOrphans v).pins = s.pins ∧
    (s.shipOrphans v).clock = s.clock ∧ (s.shipOrphans v).wet = s.wet ∧ (s.shipOrphans v).working = s.working ∧
    (s.shipOrphans v).stored = s.stored ∧ (s.shipOrphans v).writeList = s.writeList ∧ (s.shipOrphans v).writing = s.writing ∧
    (s.shipOrphans v).retained = s.retained ∧ (s.shipOrphans v).marks = s.marks := by
  simp only [State.shipOrphans]
  all_goals simp

@[simp] theorem State.cancelWaiting_frame (slot : Nat) (t : Truck) :
    (s.cancelWaiting slot t).pending = s.pending ∧ (s.cancelWaiting slot t).supply = s.supply ∧
    (s.cancelWaiting slot t).cond = s.cond ∧ (s.cancelWaiting slot t).cause = s.cause ∧
    (s.cancelWaiting slot t).strap = s.strap ∧ (s.cancelWaiting slot t).ports = s.ports ∧
    (s.cancelWaiting slot t).stackMap = s.stackMap ∧ (s.cancelWaiting slot t).touches = s.touches ∧
    (s.cancelWaiting slot t).backlog = s.backlog ∧ (s.cancelWaiting slot t).stocktake = s.stocktake ∧
    (s.cancelWaiting slot t).deck = s.deck ∧ (s.cancelWaiting slot t).arrivals = s.arrivals ∧
    (s.cancelWaiting slot t).lastId = s.lastId ∧ (s.cancelWaiting slot t).loaders = s.loaders ∧
    (s.cancelWaiting slot t).shipLog = s.shipLog ∧ (s.cancelWaiting slot t).flags = s.flags ∧
    (s.cancelWaiting slot t).pins = s.pins ∧ (s.cancelWaiting slot t).clock = s.clock ∧ (s.cancelWaiting slot t).wet = s.wet ∧
    (s.cancelWaiting slot t).working = s.working ∧ (s.cancelWaiting slot t).stored = s.stored ∧
    (s.cancelWaiting slot t).writeList = s.writeList ∧ (s.cancelWaiting slot t).writing = s.writing ∧
    (s.cancelWaiting slot t).retained = s.retained := by
  simp [State.cancelWaiting]

@[simp] theorem State.abortNext_frame (slot : Nat) :
    (s.abortNext slot).pending = s.pending ∧ (s.abortNext slot).supply = s.supply ∧ (s.abortNext slot).cond = s.cond ∧
    (s.abortNext slot).cause = s.cause ∧ (s.abortNext slot).strap = s.strap ∧ (s.abortNext slot).ports = s.ports ∧
    (s.abortNext slot).packs = s.packs ∧ (s.abortNext slot).stackMap = s.stackMap ∧ (s.abortNext slot).touches = s.touches ∧
    (s.abortNext slot).backlog = s.backlog ∧ (s.abortNext slot).stocktake = s.stocktake ∧ (s.abortNext slot).deck = s.deck ∧
    (s.abortNext slot).trucks = s.trucks ∧ (s.abortNext slot).arrivals = s.arrivals ∧ (s.abortNext slot).waiting = s.waiting ∧
    (s.abortNext slot).returns = s.returns ∧ (s.abortNext slot).planQueue = s.planQueue ∧ (s.abortNext slot).tasks = s.tasks ∧
    (s.abortNext slot).lastId = s.lastId ∧ (s.abortNext slot).loaders = s.loaders ∧ (s.abortNext slot).shipLog = s.shipLog ∧
    (s.abortNext slot).flags = s.flags ∧ (s.abortNext slot).pins = s.pins ∧ (s.abortNext slot).clock = s.clock ∧
    (s.abortNext slot).wet = s.wet ∧ (s.abortNext slot).working = s.working ∧ (s.abortNext slot).stored = s.stored ∧
    (s.abortNext slot).writeList = s.writeList ∧ (s.abortNext slot).writing = s.writing ∧
    (s.abortNext slot).retained = s.retained ∧ (s.abortNext slot).marks = s.marks := by
  simp only [State.abortNext]
  repeat' split
  all_goals simp

@[simp] theorem State.cancelAtLane_frame (slot : Nat) :
    (s.cancelAtLane slot).pending = s.pending ∧ (s.cancelAtLane slot).supply = s.supply ∧ (s.cancelAtLane slot).cond = s.cond ∧
    (s.cancelAtLane slot).cause = s.cause ∧ (s.cancelAtLane slot).strap = s.strap ∧ (s.cancelAtLane slot).ports = s.ports ∧
    (s.cancelAtLane slot).stackMap = s.stackMap ∧ (s.cancelAtLane slot).stocktake = s.stocktake ∧
    (s.cancelAtLane slot).deck = s.deck ∧ (s.cancelAtLane slot).arrivals = s.arrivals ∧
    (s.cancelAtLane slot).waiting = s.waiting ∧ (s.cancelAtLane slot).returns = s.returns ∧
    (s.cancelAtLane slot).lastId = s.lastId ∧ (s.cancelAtLane slot).shipLog = s.shipLog ∧
    (s.cancelAtLane slot).flags = s.flags ∧ (s.cancelAtLane slot).pins = s.pins ∧ (s.cancelAtLane slot).clock = s.clock ∧
    (s.cancelAtLane slot).wet = s.wet ∧ (s.cancelAtLane slot).working = s.working ∧ (s.cancelAtLane slot).stored = s.stored ∧
    (s.cancelAtLane slot).writeList = s.writeList ∧ (s.cancelAtLane slot).writing = s.writing ∧
    (s.cancelAtLane slot).retained = s.retained := by
  simp only [State.cancelAtLane]
  all_goals simp

@[simp] theorem State.tally_frame (r : PackReq) :
    (s.tally r).pending = s.pending ∧ (s.tally r).supply = s.supply ∧ (s.tally r).cond = s.cond ∧ (s.tally r).cause = s.cause ∧
    (s.tally r).strap = s.strap ∧ (s.tally r).ports = s.ports ∧ (s.tally r).stackMap = s.stackMap ∧
    (s.tally r).touches = s.touches ∧ (s.tally r).backlog = s.backlog ∧ (s.tally r).stocktake = s.stocktake ∧
    (s.tally r).trucks = s.trucks ∧ (s.tally r).arrivals = s.arrivals ∧ (s.tally r).waiting = s.waiting ∧
    (s.tally r).returns = s.returns ∧ (s.tally r).planQueue = s.planQueue ∧ (s.tally r).plan = s.plan ∧
    (s.tally r).tasks = s.tasks ∧ (s.tally r).lastId = s.lastId ∧ (s.tally r).loaders = s.loaders ∧
    (s.tally r).shipLog = s.shipLog ∧ (s.tally r).flags = s.flags ∧ (s.tally r).clock = s.clock ∧ (s.tally r).wet = s.wet ∧
    (s.tally r).working = s.working ∧ (s.tally r).stored = s.stored ∧ (s.tally r).writeList = s.writeList ∧
    (s.tally r).writing = s.writing ∧ (s.tally r).retained = s.retained := by
  simp only [State.tally]
  all_goals simp

@[simp] theorem State.pullDeck_frame (i : Nat) :
    (s.pullDeck i).pending = s.pending ∧ (s.pullDeck i).supply = s.supply ∧ (s.pullDeck i).cond = s.cond ∧
    (s.pullDeck i).cause = s.cause ∧ (s.pullDeck i).strap = s.strap ∧ (s.pullDeck i).ports = s.ports ∧
    (s.pullDeck i).stackMap = s.stackMap ∧ (s.pullDeck i).stocktake = s.stocktake ∧ (s.pullDeck i).trucks = s.trucks ∧
    (s.pullDeck i).arrivals = s.arrivals ∧ (s.pullDeck i).waiting = s.waiting ∧ (s.pullDeck i).returns = s.returns ∧
    (s.pullDeck i).planQueue = s.planQueue ∧ (s.pullDeck i).plan = s.plan ∧ (s.pullDeck i).lastId = s.lastId ∧
    (s.pullDeck i).shipLog = s.shipLog ∧ (s.pullDeck i).flags = s.flags ∧ (s.pullDeck i).clock = s.clock ∧
    (s.pullDeck i).wet = s.wet ∧ (s.pullDeck i).working = s.working ∧ (s.pullDeck i).stored = s.stored ∧
    (s.pullDeck i).writeList = s.writeList ∧ (s.pullDeck i).writing = s.writing ∧ (s.pullDeck i).retained = s.retained := by
  simp only [State.pullDeck]
  all_goals simp

@[simp] theorem State.mismatch_frame (t : Task) (tag : Nat) :
    (s.mismatch t tag).pending = s.pending ∧ (s.mismatch t tag).supply = s.supply ∧ (s.mismatch t tag).cond = s.cond ∧
    (s.mismatch t tag).cause = s.cause ∧ (s.mismatch t tag).strap = s.strap ∧ (s.mismatch t tag).ports = s.ports ∧
    (s.mismatch t tag).stocktake = s.stocktake ∧ (s.mismatch t tag).arrivals = s.arrivals ∧
    (s.mismatch t tag).waiting = s.waiting ∧ (s.mismatch t tag).returns = s.returns ∧ (s.mismatch t tag).lastId = s.lastId ∧
    (s.mismatch t tag).shipLog = s.shipLog ∧ (s.mismatch t tag).clock = s.clock ∧ (s.mismatch t tag).wet = s.wet ∧
    (s.mismatch t tag).working = s.working ∧ (s.mismatch t tag).stored = s.stored ∧
    (s.mismatch t tag).writeList = s.writeList ∧ (s.mismatch t tag).writing = s.writing ∧
    (s.mismatch t tag).retained = s.retained := by
  simp only [State.mismatch]
  repeat' split
  all_goals simp

@[simp] theorem State.placeAtStack_frame (t : Task) (k : Nat) :
    (s.placeAtStack t k).pending = s.pending ∧ (s.placeAtStack t k).supply = s.supply ∧ (s.placeAtStack t k).cond = s.cond ∧
    (s.placeAtStack t k).cause = s.cause ∧ (s.placeAtStack t k).strap = s.strap ∧ (s.placeAtStack t k).ports = s.ports ∧
    (s.placeAtStack t k).stocktake = s.stocktake ∧ (s.placeAtStack t k).deck = s.deck ∧
    (s.placeAtStack t k).trucks = s.trucks ∧ (s.placeAtStack t k).arrivals = s.arrivals ∧
    (s.placeAtStack t k).waiting = s.waiting ∧ (s.placeAtStack t k).returns = s.returns ∧
    (s.placeAtStack t k).lastId = s.lastId ∧ (s.placeAtStack t k).shipLog = s.shipLog ∧ (s.placeAtStack t k).flags = s.flags ∧
    (s.placeAtStack t k).pins = s.pins ∧ (s.placeAtStack t k).clock = s.clock ∧ (s.placeAtStack t k).wet = s.wet ∧
    (s.placeAtStack t k).working = s.working ∧ (s.placeAtStack t k).stored = s.stored ∧
    (s.placeAtStack t k).writeList = s.writeList ∧ (s.placeAtStack t k).writing = s.writing ∧
    (s.placeAtStack t k).retained = s.retained := by
  simp only [State.placeAtStack]
  all_goals simp

@[simp] theorem State.placeAtLane_frame (t : Task) (slot : Nat) :
    (s.placeAtLane t slot).pending = s.pending ∧ (s.placeAtLane t slot).supply = s.supply ∧
    (s.placeAtLane t slot).cond = s.cond ∧ (s.placeAtLane t slot).cause = s.cause ∧ (s.placeAtLane t slot).strap = s.strap ∧
    (s.placeAtLane t slot).ports = s.ports ∧ (s.placeAtLane t slot).stackMap = s.stackMap ∧
    (s.placeAtLane t slot).stocktake = s.stocktake ∧ (s.placeAtLane t slot).deck = s.deck ∧
    (s.placeAtLane t slot).arrivals = s.arrivals ∧ (s.placeAtLane t slot).waiting = s.waiting ∧
    (s.placeAtLane t slot).returns = s.returns ∧ (s.placeAtLane t slot).lastId = s.lastId ∧
    (s.placeAtLane t slot).shipLog = s.shipLog ∧ (s.placeAtLane t slot).pins = s.pins ∧
    (s.placeAtLane t slot).clock = s.clock ∧ (s.placeAtLane t slot).wet = s.wet ∧ (s.placeAtLane t slot).working = s.working ∧
    (s.placeAtLane t slot).stored = s.stored ∧ (s.placeAtLane t slot).writeList = s.writeList ∧
    (s.placeAtLane t slot).writing = s.writing ∧ (s.placeAtLane t slot).retained = s.retained := by
  simp only [State.placeAtLane]
  all_goals simp

@[simp] theorem State.placement_frame (t : Task) (p : Place) :
    (s.placement t p).pending = s.pending ∧ (s.placement t p).supply = s.supply ∧ (s.placement t p).cond = s.cond ∧
    (s.placement t p).cause = s.cause ∧ (s.placement t p).strap = s.strap ∧ (s.placement t p).ports = s.ports ∧
    (s.placement t p).stocktake = s.stocktake ∧ (s.placement t p).deck = s.deck ∧ (s.placement t p).arrivals = s.arrivals ∧
    (s.placement t p).waiting = s.waiting ∧ (s.placement t p).returns = s.returns ∧ (s.placement t p).lastId = s.lastId ∧
    (s.placement t p).shipLog = s.shipLog ∧ (s.placement t p).pins = s.pins ∧ (s.placement t p).clock = s.clock ∧
    (s.placement t p).wet = s.wet ∧ (s.placement t p).working = s.working ∧ (s.placement t p).stored = s.stored ∧
    (s.placement t p).writeList = s.writeList ∧ (s.placement t p).writing = s.writing ∧
    (s.placement t p).retained = s.retained := by
  simp only [State.placement]
  repeat' split
  all_goals simp

@[simp] theorem State.notFound_frame (t : Task) :
    (s.notFound t).pending = s.pending ∧ (s.notFound t).supply = s.supply ∧ (s.notFound t).cond = s.cond ∧
    (s.notFound t).cause = s.cause ∧ (s.notFound t).strap = s.strap ∧ (s.notFound t).ports = s.ports ∧
    (s.notFound t).stocktake = s.stocktake ∧ (s.notFound t).arrivals = s.arrivals ∧ (s.notFound t).waiting = s.waiting ∧
    (s.notFound t).returns = s.returns ∧ (s.notFound t).lastId = s.lastId ∧ (s.notFound t).shipLog = s.shipLog ∧
    (s.notFound t).clock = s.clock ∧ (s.notFound t).wet = s.wet ∧ (s.notFound t).working = s.working ∧
    (s.notFound t).stored = s.stored ∧ (s.notFound t).writeList = s.writeList ∧ (s.notFound t).writing = s.writing ∧
    (s.notFound t).retained = s.retained := by
  simp only [State.notFound]
  all_goals simp

@[simp] theorem State.clearPlace_frame (i : Nat) (p : Pack) :
    (s.clearPlace i p).pending = s.pending ∧ (s.clearPlace i p).supply = s.supply ∧ (s.clearPlace i p).cond = s.cond ∧
    (s.clearPlace i p).cause = s.cause ∧ (s.clearPlace i p).strap = s.strap ∧ (s.clearPlace i p).ports = s.ports ∧
    (s.clearPlace i p).packs = s.packs ∧ (s.clearPlace i p).touches = s.touches ∧ (s.clearPlace i p).stocktake = s.stocktake ∧
    (s.clearPlace i p).trucks = s.trucks ∧ (s.clearPlace i p).arrivals = s.arrivals ∧ (s.clearPlace i p).waiting = s.waiting ∧
    (s.clearPlace i p).returns = s.returns ∧ (s.clearPlace i p).planQueue = s.planQueue ∧ (s.clearPlace i p).plan = s.plan ∧
    (s.clearPlace i p).tasks = s.tasks ∧ (s.clearPlace i p).lastId = s.lastId ∧ (s.clearPlace i p).loaders = s.loaders ∧
    (s.clearPlace i p).shipLog = s.shipLog ∧ (s.clearPlace i p).clock = s.clock ∧ (s.clearPlace i p).wet = s.wet ∧
    (s.clearPlace i p).working = s.working ∧ (s.clearPlace i p).stored = s.stored ∧
    (s.clearPlace i p).writeList = s.writeList ∧ (s.clearPlace i p).writing = s.writing ∧
    (s.clearPlace i p).retained = s.retained := by
  simp only [State.clearPlace]
  repeat' split
  all_goals simp

@[simp] theorem State.takeIn_frame (k i : Nat) (p : Pack) :
    (s.takeIn k i p).pending = s.pending ∧ (s.takeIn k i p).supply = s.supply ∧ (s.takeIn k i p).cond = s.cond ∧
    (s.takeIn k i p).cause = s.cause ∧ (s.takeIn k i p).strap = s.strap ∧ (s.takeIn k i p).ports = s.ports ∧
    (s.takeIn k i p).stocktake = s.stocktake ∧ (s.takeIn k i p).arrivals = s.arrivals ∧ (s.takeIn k i p).waiting = s.waiting ∧
    (s.takeIn k i p).returns = s.returns ∧ (s.takeIn k i p).lastId = s.lastId ∧ (s.takeIn k i p).shipLog = s.shipLog ∧
    (s.takeIn k i p).clock = s.clock ∧ (s.takeIn k i p).wet = s.wet ∧ (s.takeIn k i p).working = s.working ∧
    (s.takeIn k i p).stored = s.stored ∧ (s.takeIn k i p).writeList = s.writeList ∧ (s.takeIn k i p).writing = s.writing ∧
    (s.takeIn k i p).retained = s.retained := by
  simp only [State.takeIn]
  all_goals simp

@[simp] theorem State.reportTag_frame (k : Nat) (r : Report) (tag : Nat) :
    ((reportTag k (s, r) tag).1).pending = s.pending ∧ ((reportTag k (s, r) tag).1).supply = s.supply ∧
    ((reportTag k (s, r) tag).1).cond = s.cond ∧ ((reportTag k (s, r) tag).1).cause = s.cause ∧
    ((reportTag k (s, r) tag).1).strap = s.strap ∧ ((reportTag k (s, r) tag).1).ports = s.ports ∧
    ((reportTag k (s, r) tag).1).stocktake = s.stocktake ∧ ((reportTag k (s, r) tag).1).arrivals = s.arrivals ∧
    ((reportTag k (s, r) tag).1).waiting = s.waiting ∧ ((reportTag k (s, r) tag).1).returns = s.returns ∧
    ((reportTag k (s, r) tag).1).lastId = s.lastId ∧ ((reportTag k (s, r) tag).1).shipLog = s.shipLog ∧
    ((reportTag k (s, r) tag).1).clock = s.clock ∧ ((reportTag k (s, r) tag).1).wet = s.wet ∧
    ((reportTag k (s, r) tag).1).working = s.working ∧ ((reportTag k (s, r) tag).1).stored = s.stored ∧
    ((reportTag k (s, r) tag).1).writeList = s.writeList ∧ ((reportTag k (s, r) tag).1).writing = s.writing ∧
    ((reportTag k (s, r) tag).1).retained = s.retained := by
  simp only [reportTag]
  repeat' split
  all_goals simp
@[simp] theorem State.foldl_reportTag_frame (k : Nat) (l : List Nat) (acc : State × Report) :
    (l.foldl (reportTag k) acc).1.pending = acc.1.pending ∧ (l.foldl (reportTag k) acc).1.supply = acc.1.supply ∧
    (l.foldl (reportTag k) acc).1.cond = acc.1.cond ∧ (l.foldl (reportTag k) acc).1.cause = acc.1.cause ∧
    (l.foldl (reportTag k) acc).1.strap = acc.1.strap ∧ (l.foldl (reportTag k) acc).1.ports = acc.1.ports ∧
    (l.foldl (reportTag k) acc).1.stocktake = acc.1.stocktake ∧ (l.foldl (reportTag k) acc).1.arrivals = acc.1.arrivals ∧
    (l.foldl (reportTag k) acc).1.waiting = acc.1.waiting ∧ (l.foldl (reportTag k) acc).1.returns = acc.1.returns ∧
    (l.foldl (reportTag k) acc).1.lastId = acc.1.lastId ∧ (l.foldl (reportTag k) acc).1.shipLog = acc.1.shipLog ∧
    (l.foldl (reportTag k) acc).1.clock = acc.1.clock ∧ (l.foldl (reportTag k) acc).1.wet = acc.1.wet ∧
    (l.foldl (reportTag k) acc).1.working = acc.1.working ∧ (l.foldl (reportTag k) acc).1.stored = acc.1.stored ∧
    (l.foldl (reportTag k) acc).1.writeList = acc.1.writeList ∧ (l.foldl (reportTag k) acc).1.writing = acc.1.writing ∧
    (l.foldl (reportTag k) acc).1.retained = acc.1.retained := by
  induction l generalizing acc with
  | nil => simp
  | cons a l ih => obtain ⟨s, r⟩ := acc; simp [List.foldl_cons, ih]

@[simp] theorem State.dropLost_frame (i : Nat) :
    (s.dropLost i).pending = s.pending ∧ (s.dropLost i).supply = s.supply ∧ (s.dropLost i).cond = s.cond ∧
    (s.dropLost i).cause = s.cause ∧ (s.dropLost i).strap = s.strap ∧ (s.dropLost i).ports = s.ports ∧
    (s.dropLost i).stackMap = s.stackMap ∧ (s.dropLost i).stocktake = s.stocktake ∧ (s.dropLost i).deck = s.deck ∧
    (s.dropLost i).arrivals = s.arrivals ∧ (s.dropLost i).waiting = s.waiting ∧ (s.dropLost i).returns = s.returns ∧
    (s.dropLost i).lastId = s.lastId ∧ (s.dropLost i).shipLog = s.shipLog ∧ (s.dropLost i).pins = s.pins ∧
    (s.dropLost i).clock = s.clock ∧ (s.dropLost i).wet = s.wet ∧ (s.dropLost i).working = s.working ∧
    (s.dropLost i).stored = s.stored ∧ (s.dropLost i).writeList = s.writeList ∧ (s.dropLost i).writing = s.writing ∧
    (s.dropLost i).retained = s.retained := by
  simp only [State.dropLost]
  all_goals simp
@[simp] theorem State.foldl_dropLost_frame (l : List Nat) :
    (l.foldl State.dropLost s).pending = s.pending ∧ (l.foldl State.dropLost s).supply = s.supply ∧
    (l.foldl State.dropLost s).cond = s.cond ∧ (l.foldl State.dropLost s).cause = s.cause ∧
    (l.foldl State.dropLost s).strap = s.strap ∧ (l.foldl State.dropLost s).ports = s.ports ∧
    (l.foldl State.dropLost s).stackMap = s.stackMap ∧ (l.foldl State.dropLost s).stocktake = s.stocktake ∧
    (l.foldl State.dropLost s).deck = s.deck ∧ (l.foldl State.dropLost s).arrivals = s.arrivals ∧
    (l.foldl State.dropLost s).waiting = s.waiting ∧ (l.foldl State.dropLost s).returns = s.returns ∧
    (l.foldl State.dropLost s).lastId = s.lastId ∧ (l.foldl State.dropLost s).shipLog = s.shipLog ∧
    (l.foldl State.dropLost s).pins = s.pins ∧ (l.foldl State.dropLost s).clock = s.clock ∧
    (l.foldl State.dropLost s).wet = s.wet ∧ (l.foldl State.dropLost s).working = s.working ∧
    (l.foldl State.dropLost s).stored = s.stored ∧ (l.foldl State.dropLost s).writeList = s.writeList ∧
    (l.foldl State.dropLost s).writing = s.writing ∧ (l.foldl State.dropLost s).retained = s.retained := by
  refine ⟨foldl_field (·.pending) _ (fun s a => by simp) _ s, foldl_field (·.supply) _ (fun s a => by simp) _ s, foldl_field (·.cond) _ (fun s a => by simp) _ s, foldl_field (·.cause) _ (fun s a => by simp) _ s, foldl_field (·.strap) _ (fun s a => by simp) _ s, foldl_field (·.ports) _ (fun s a => by simp) _ s, foldl_field (·.stackMap) _ (fun s a => by simp) _ s, foldl_field (·.stocktake) _ (fun s a => by simp) _ s, foldl_field (·.deck) _ (fun s a => by simp) _ s, foldl_field (·.arrivals) _ (fun s a => by simp) _ s, foldl_field (·.waiting) _ (fun s a => by simp) _ s, foldl_field (·.returns) _ (fun s a => by simp) _ s, foldl_field (·.lastId) _ (fun s a => by simp) _ s, foldl_field (·.shipLog) _ (fun s a => by simp) _ s, foldl_field (·.pins) _ (fun s a => by simp) _ s, foldl_field (·.clock) _ (fun s a => by simp) _ s, foldl_field (·.wet) _ (fun s a => by simp) _ s, foldl_field (·.working) _ (fun s a => by simp) _ s, foldl_field (·.stored) _ (fun s a => by simp) _ s, foldl_field (·.writeList) _ (fun s a => by simp) _ s, foldl_field (·.writing) _ (fun s a => by simp) _ s, foldl_field (·.retained) _ (fun s a => by simp) _ s⟩

@[simp] theorem State.rewriteStack_frame (k : Nat) (l : List Nat) :
    (s.rewriteStack k l).pending = s.pending ∧ (s.rewriteStack k l).supply = s.supply ∧ (s.rewriteStack k l).cond = s.cond ∧
    (s.rewriteStack k l).cause = s.cause ∧ (s.rewriteStack k l).strap = s.strap ∧ (s.rewriteStack k l).ports = s.ports ∧
    (s.rewriteStack k l).packs = s.packs ∧ (s.rewriteStack k l).touches = s.touches ∧
    (s.rewriteStack k l).stocktake = s.stocktake ∧ (s.rewriteStack k l).deck = s.deck ∧
    (s.rewriteStack k l).trucks = s.trucks ∧ (s.rewriteStack k l).arrivals = s.arrivals ∧
    (s.rewriteStack k l).waiting = s.waiting ∧ (s.rewriteStack k l).returns = s.returns ∧
    (s.rewriteStack k l).planQueue = s.planQueue ∧ (s.rewriteStack k l).plan = s.plan ∧ (s.rewriteStack k l).tasks = s.tasks ∧
    (s.rewriteStack k l).lastId = s.lastId ∧ (s.rewriteStack k l).loaders = s.loaders ∧
    (s.rewriteStack k l).shipLog = s.shipLog ∧ (s.rewriteStack k l).flags = s.flags ∧ (s.rewriteStack k l).pins = s.pins ∧
    (s.rewriteStack k l).clock = s.clock ∧ (s.rewriteStack k l).wet = s.wet ∧ (s.rewriteStack k l).working = s.working ∧
    (s.rewriteStack k l).stored = s.stored ∧ (s.rewriteStack k l).writeList = s.writeList ∧
    (s.rewriteStack k l).writing = s.writing ∧ (s.rewriteStack k l).retained = s.retained := by
  simp only [State.rewriteStack]
  repeat' split
  all_goals simp

@[simp] theorem State.countStocktake_frame (r : Option Reason) (c : SurveyCounts) :
    (s.countStocktake r c).pending = s.pending ∧ (s.countStocktake r c).supply = s.supply ∧
    (s.countStocktake r c).cond = s.cond ∧ (s.countStocktake r c).cause = s.cause ∧ (s.countStocktake r c).strap = s.strap ∧
    (s.countStocktake r c).ports = s.ports ∧ (s.countStocktake r c).packs = s.packs ∧
    (s.countStocktake r c).stackMap = s.stackMap ∧ (s.countStocktake r c).touches = s.touches ∧
    (s.countStocktake r c).backlog = s.backlog ∧ (s.countStocktake r c).deck = s.deck ∧
    (s.countStocktake r c).trucks = s.trucks ∧ (s.countStocktake r c).arrivals = s.arrivals ∧
    (s.countStocktake r c).waiting = s.waiting ∧ (s.countStocktake r c).returns = s.returns ∧
    (s.countStocktake r c).planQueue = s.planQueue ∧ (s.countStocktake r c).plan = s.plan ∧
    (s.countStocktake r c).tasks = s.tasks ∧ (s.countStocktake r c).lastId = s.lastId ∧
    (s.countStocktake r c).loaders = s.loaders ∧ (s.countStocktake r c).shipLog = s.shipLog ∧
    (s.countStocktake r c).flags = s.flags ∧ (s.countStocktake r c).pins = s.pins ∧ (s.countStocktake r c).clock = s.clock ∧
    (s.countStocktake r c).wet = s.wet ∧ (s.countStocktake r c).working = s.working ∧
    (s.countStocktake r c).stored = s.stored ∧ (s.countStocktake r c).writeList = s.writeList ∧
    (s.countStocktake r c).writing = s.writing ∧ (s.countStocktake r c).retained = s.retained ∧
    (s.countStocktake r c).marks = s.marks := by
  simp only [State.countStocktake]
  repeat' split
  all_goals simp

@[simp] theorem State.report_frame (t : Task) (k : Nat) (tags : List Nat) :
    ((s.report t k tags).1).pending = s.pending ∧ ((s.report t k tags).1).supply = s.supply ∧
    ((s.report t k tags).1).cond = s.cond ∧ ((s.report t k tags).1).cause = s.cause ∧ ((s.report t k tags).1).strap = s.strap ∧
    ((s.report t k tags).1).ports = s.ports ∧ ((s.report t k tags).1).arrivals = s.arrivals ∧
    ((s.report t k tags).1).waiting = s.waiting ∧ ((s.report t k tags).1).returns = s.returns ∧
    ((s.report t k tags).1).lastId = s.lastId ∧ ((s.report t k tags).1).shipLog = s.shipLog ∧
    ((s.report t k tags).1).clock = s.clock ∧ ((s.report t k tags).1).wet = s.wet ∧
    ((s.report t k tags).1).working = s.working ∧ ((s.report t k tags).1).stored = s.stored ∧
    ((s.report t k tags).1).writeList = s.writeList ∧ ((s.report t k tags).1).writing = s.writing ∧
    ((s.report t k tags).1).retained = s.retained := by
  simp [State.report]

@[simp] theorem State.withdrawHold_frame (i : Nat) :
    (s.withdrawHold i).pending = s.pending ∧ (s.withdrawHold i).supply = s.supply ∧ (s.withdrawHold i).cond = s.cond ∧
    (s.withdrawHold i).cause = s.cause ∧ (s.withdrawHold i).strap = s.strap ∧ (s.withdrawHold i).ports = s.ports ∧
    (s.withdrawHold i).stackMap = s.stackMap ∧ (s.withdrawHold i).stocktake = s.stocktake ∧ (s.withdrawHold i).deck = s.deck ∧
    (s.withdrawHold i).arrivals = s.arrivals ∧ (s.withdrawHold i).waiting = s.waiting ∧
    (s.withdrawHold i).returns = s.returns ∧ (s.withdrawHold i).lastId = s.lastId ∧ (s.withdrawHold i).shipLog = s.shipLog ∧
    (s.withdrawHold i).pins = s.pins ∧ (s.withdrawHold i).clock = s.clock ∧ (s.withdrawHold i).wet = s.wet ∧
    (s.withdrawHold i).working = s.working ∧ (s.withdrawHold i).stored = s.stored ∧
    (s.withdrawHold i).writeList = s.writeList ∧ (s.withdrawHold i).writing = s.writing ∧
    (s.withdrawHold i).retained = s.retained := by
  simp only [State.withdrawHold]
  all_goals simp

@[simp] theorem State.clearHold_frame (i : Nat) (p : Pack) :
    (s.clearHold i p).pending = s.pending ∧ (s.clearHold i p).supply = s.supply ∧ (s.clearHold i p).cond = s.cond ∧
    (s.clearHold i p).cause = s.cause ∧ (s.clearHold i p).strap = s.strap ∧ (s.clearHold i p).ports = s.ports ∧
    (s.clearHold i p).stackMap = s.stackMap ∧ (s.clearHold i p).touches = s.touches ∧ (s.clearHold i p).backlog = s.backlog ∧
    (s.clearHold i p).stocktake = s.stocktake ∧ (s.clearHold i p).deck = s.deck ∧ (s.clearHold i p).trucks = s.trucks ∧
    (s.clearHold i p).arrivals = s.arrivals ∧ (s.clearHold i p).waiting = s.waiting ∧ (s.clearHold i p).returns = s.returns ∧
    (s.clearHold i p).tasks = s.tasks ∧ (s.clearHold i p).lastId = s.lastId ∧ (s.clearHold i p).loaders = s.loaders ∧
    (s.clearHold i p).shipLog = s.shipLog ∧ (s.clearHold i p).flags = s.flags ∧ (s.clearHold i p).pins = s.pins ∧
    (s.clearHold i p).clock = s.clock ∧ (s.clearHold i p).wet = s.wet ∧ (s.clearHold i p).working = s.working ∧
    (s.clearHold i p).stored = s.stored ∧ (s.clearHold i p).writeList = s.writeList ∧ (s.clearHold i p).writing = s.writing ∧
    (s.clearHold i p).retained = s.retained := by
  simp only [State.clearHold]
  repeat' split
  all_goals simp

@[simp] theorem State.allowPartial_frame (slot : Nat) (t : Truck) :
    (s.allowPartial slot t).pending = s.pending ∧ (s.allowPartial slot t).supply = s.supply ∧
    (s.allowPartial slot t).cond = s.cond ∧ (s.allowPartial slot t).cause = s.cause ∧ (s.allowPartial slot t).strap = s.strap ∧
    (s.allowPartial slot t).ports = s.ports ∧ (s.allowPartial slot t).packs = s.packs ∧
    (s.allowPartial slot t).stackMap = s.stackMap ∧ (s.allowPartial slot t).touches = s.touches ∧
    (s.allowPartial slot t).backlog = s.backlog ∧ (s.allowPartial slot t).stocktake = s.stocktake ∧
    (s.allowPartial slot t).deck = s.deck ∧ (s.allowPartial slot t).arrivals = s.arrivals ∧
    (s.allowPartial slot t).waiting = s.waiting ∧ (s.allowPartial slot t).returns = s.returns ∧
    (s.allowPartial slot t).tasks = s.tasks ∧ (s.allowPartial slot t).lastId = s.lastId ∧
    (s.allowPartial slot t).loaders = s.loaders ∧ (s.allowPartial slot t).shipLog = s.shipLog ∧
    (s.allowPartial slot t).pins = s.pins ∧ (s.allowPartial slot t).clock = s.clock ∧ (s.allowPartial slot t).wet = s.wet ∧
    (s.allowPartial slot t).working = s.working ∧ (s.allowPartial slot t).stored = s.stored ∧
    (s.allowPartial slot t).writeList = s.writeList ∧ (s.allowPartial slot t).writing = s.writing ∧
    (s.allowPartial slot t).retained = s.retained := by
  simp only [State.allowPartial]
  repeat' split
  all_goals simp

@[simp] theorem State.beginStocktake_frame (sc : Scope) :
    (s.beginStocktake sc).pending = s.pending ∧ (s.beginStocktake sc).supply = s.supply ∧ (s.beginStocktake sc).cond = s.cond ∧
    (s.beginStocktake sc).cause = s.cause ∧ (s.beginStocktake sc).strap = s.strap ∧ (s.beginStocktake sc).ports = s.ports ∧
    (s.beginStocktake sc).packs = s.packs ∧ (s.beginStocktake sc).stackMap = s.stackMap ∧
    (s.beginStocktake sc).touches = s.touches ∧ (s.beginStocktake sc).deck = s.deck ∧ (s.beginStocktake sc).trucks = s.trucks ∧
    (s.beginStocktake sc).arrivals = s.arrivals ∧ (s.beginStocktake sc).waiting = s.waiting ∧
    (s.beginStocktake sc).returns = s.returns ∧ (s.beginStocktake sc).planQueue = s.planQueue ∧
    (s.beginStocktake sc).plan = s.plan ∧ (s.beginStocktake sc).tasks = s.tasks ∧ (s.beginStocktake sc).lastId = s.lastId ∧
    (s.beginStocktake sc).loaders = s.loaders ∧ (s.beginStocktake sc).shipLog = s.shipLog ∧
    (s.beginStocktake sc).flags = s.flags ∧ (s.beginStocktake sc).pins = s.pins ∧ (s.beginStocktake sc).clock = s.clock ∧
    (s.beginStocktake sc).wet = s.wet ∧ (s.beginStocktake sc).working = s.working ∧ (s.beginStocktake sc).stored = s.stored ∧
    (s.beginStocktake sc).writeList = s.writeList ∧ (s.beginStocktake sc).writing = s.writing ∧
    (s.beginStocktake sc).retained = s.retained := by
  simp [State.beginStocktake]

@[simp] theorem State.passRated_frame (n : Nat) :
    (s.passRated n).pending = s.pending ∧ (s.passRated n).supply = s.supply ∧ (s.passRated n).cond = s.cond ∧
    (s.passRated n).cause = s.cause ∧ (s.passRated n).strap = s.strap ∧ (s.passRated n).ports = s.ports ∧
    (s.passRated n).packs = s.packs ∧ (s.passRated n).stackMap = s.stackMap ∧ (s.passRated n).touches = s.touches ∧
    (s.passRated n).backlog = s.backlog ∧ (s.passRated n).stocktake = s.stocktake ∧ (s.passRated n).deck = s.deck ∧
    (s.passRated n).trucks = s.trucks ∧ (s.passRated n).arrivals = s.arrivals ∧ (s.passRated n).waiting = s.waiting ∧
    (s.passRated n).returns = s.returns ∧ (s.passRated n).tasks = s.tasks ∧ (s.passRated n).lastId = s.lastId ∧
    (s.passRated n).loaders = s.loaders ∧ (s.passRated n).shipLog = s.shipLog ∧ (s.passRated n).flags = s.flags ∧
    (s.passRated n).pins = s.pins ∧ (s.passRated n).clock = s.clock ∧ (s.passRated n).wet = s.wet ∧
    (s.passRated n).working = s.working ∧ (s.passRated n).stored = s.stored ∧ (s.passRated n).writeList = s.writeList ∧
    (s.passRated n).writing = s.writing ∧ (s.passRated n).retained = s.retained := by
  simp only [State.passRated]
  all_goals simp

@[simp] theorem State.reassignZone_frame (z : Nat) :
    (s.reassignZone z).pending = s.pending ∧ (s.reassignZone z).supply = s.supply ∧ (s.reassignZone z).cond = s.cond ∧
    (s.reassignZone z).cause = s.cause ∧ (s.reassignZone z).strap = s.strap ∧ (s.reassignZone z).ports = s.ports ∧
    (s.reassignZone z).packs = s.packs ∧ (s.reassignZone z).stackMap = s.stackMap ∧ (s.reassignZone z).touches = s.touches ∧
    (s.reassignZone z).backlog = s.backlog ∧ (s.reassignZone z).stocktake = s.stocktake ∧ (s.reassignZone z).deck = s.deck ∧
    (s.reassignZone z).trucks = s.trucks ∧ (s.reassignZone z).arrivals = s.arrivals ∧ (s.reassignZone z).waiting = s.waiting ∧
    (s.reassignZone z).returns = s.returns ∧ (s.reassignZone z).planQueue = s.planQueue ∧ (s.reassignZone z).plan = s.plan ∧
    (s.reassignZone z).lastId = s.lastId ∧ (s.reassignZone z).loaders = s.loaders ∧ (s.reassignZone z).shipLog = s.shipLog ∧
    (s.reassignZone z).flags = s.flags ∧ (s.reassignZone z).pins = s.pins ∧ (s.reassignZone z).clock = s.clock ∧
    (s.reassignZone z).wet = s.wet ∧ (s.reassignZone z).working = s.working ∧ (s.reassignZone z).stored = s.stored ∧
    (s.reassignZone z).writeList = s.writeList ∧ (s.reassignZone z).writing = s.writing ∧
    (s.reassignZone z).retained = s.retained ∧ (s.reassignZone z).marks = s.marks := by
  simp only [State.reassignZone]
  all_goals simp

@[simp] theorem State.promoteAged_frame :
    (s.promoteAged).pending = s.pending ∧ (s.promoteAged).supply = s.supply ∧ (s.promoteAged).cond = s.cond ∧
    (s.promoteAged).cause = s.cause ∧ (s.promoteAged).strap = s.strap ∧ (s.promoteAged).ports = s.ports ∧
    (s.promoteAged).packs = s.packs ∧ (s.promoteAged).stackMap = s.stackMap ∧ (s.promoteAged).touches = s.touches ∧
    (s.promoteAged).backlog = s.backlog ∧ (s.promoteAged).stocktake = s.stocktake ∧ (s.promoteAged).deck = s.deck ∧
    (s.promoteAged).arrivals = s.arrivals ∧ (s.promoteAged).returns = s.returns ∧ (s.promoteAged).planQueue = s.planQueue ∧
    (s.promoteAged).plan = s.plan ∧ (s.promoteAged).tasks = s.tasks ∧ (s.promoteAged).lastId = s.lastId ∧
    (s.promoteAged).loaders = s.loaders ∧ (s.promoteAged).shipLog = s.shipLog ∧ (s.promoteAged).flags = s.flags ∧
    (s.promoteAged).pins = s.pins ∧ (s.promoteAged).clock = s.clock ∧ (s.promoteAged).wet = s.wet ∧
    (s.promoteAged).working = s.working ∧ (s.promoteAged).stored = s.stored ∧ (s.promoteAged).writeList = s.writeList ∧
    (s.promoteAged).writing = s.writing ∧ (s.promoteAged).retained = s.retained := by
  simp only [State.promoteAged]
  all_goals simp

@[simp] theorem State.takeRate_frame (n : Nat) :
    (s.takeRate n).pending = s.pending ∧ (s.takeRate n).supply = s.supply ∧ (s.takeRate n).cond = s.cond ∧
    (s.takeRate n).cause = s.cause ∧ (s.takeRate n).strap = s.strap ∧ (s.takeRate n).packs = s.packs ∧
    (s.takeRate n).stackMap = s.stackMap ∧ (s.takeRate n).touches = s.touches ∧ (s.takeRate n).backlog = s.backlog ∧
    (s.takeRate n).stocktake = s.stocktake ∧ (s.takeRate n).deck = s.deck ∧ (s.takeRate n).trucks = s.trucks ∧
    (s.takeRate n).arrivals = s.arrivals ∧ (s.takeRate n).waiting = s.waiting ∧ (s.takeRate n).returns = s.returns ∧
    (s.takeRate n).planQueue = s.planQueue ∧ (s.takeRate n).plan = s.plan ∧ (s.takeRate n).tasks = s.tasks ∧
    (s.takeRate n).lastId = s.lastId ∧ (s.takeRate n).loaders = s.loaders ∧ (s.takeRate n).shipLog = s.shipLog ∧
    (s.takeRate n).flags = s.flags ∧ (s.takeRate n).pins = s.pins ∧ (s.takeRate n).clock = s.clock ∧
    (s.takeRate n).wet = s.wet ∧ (s.takeRate n).working = s.working ∧ (s.takeRate n).stored = s.stored ∧
    (s.takeRate n).writeList = s.writeList ∧ (s.takeRate n).writing = s.writing ∧ (s.takeRate n).retained = s.retained ∧
    (s.takeRate n).marks = s.marks := by
  simp only [State.takeRate]
  repeat' split
  all_goals simp
@[simp] theorem State.foldl_takeRate_frame (l : List Nat) :
    (l.foldl State.takeRate s).pending = s.pending ∧ (l.foldl State.takeRate s).supply = s.supply ∧
    (l.foldl State.takeRate s).cond = s.cond ∧ (l.foldl State.takeRate s).cause = s.cause ∧
    (l.foldl State.takeRate s).strap = s.strap ∧ (l.foldl State.takeRate s).packs = s.packs ∧
    (l.foldl State.takeRate s).stackMap = s.stackMap ∧ (l.foldl State.takeRate s).touches = s.touches ∧
    (l.foldl State.takeRate s).backlog = s.backlog ∧ (l.foldl State.takeRate s).stocktake = s.stocktake ∧
    (l.foldl State.takeRate s).deck = s.deck ∧ (l.foldl State.takeRate s).trucks = s.trucks ∧
    (l.foldl State.takeRate s).arrivals = s.arrivals ∧ (l.foldl State.takeRate s).waiting = s.waiting ∧
    (l.foldl State.takeRate s).returns = s.returns ∧ (l.foldl State.takeRate s).planQueue = s.planQueue ∧
    (l.foldl State.takeRate s).plan = s.plan ∧ (l.foldl State.takeRate s).tasks = s.tasks ∧
    (l.foldl State.takeRate s).lastId = s.lastId ∧ (l.foldl State.takeRate s).loaders = s.loaders ∧
    (l.foldl State.takeRate s).shipLog = s.shipLog ∧ (l.foldl State.takeRate s).flags = s.flags ∧
    (l.foldl State.takeRate s).pins = s.pins ∧ (l.foldl State.takeRate s).clock = s.clock ∧
    (l.foldl State.takeRate s).wet = s.wet ∧ (l.foldl State.takeRate s).working = s.working ∧
    (l.foldl State.takeRate s).stored = s.stored ∧ (l.foldl State.takeRate s).writeList = s.writeList ∧
    (l.foldl State.takeRate s).writing = s.writing ∧ (l.foldl State.takeRate s).retained = s.retained ∧
    (l.foldl State.takeRate s).marks = s.marks := by
  refine ⟨foldl_field (·.pending) _ (fun s a => by simp) _ s, foldl_field (·.supply) _ (fun s a => by simp) _ s, foldl_field (·.cond) _ (fun s a => by simp) _ s, foldl_field (·.cause) _ (fun s a => by simp) _ s, foldl_field (·.strap) _ (fun s a => by simp) _ s, foldl_field (·.packs) _ (fun s a => by simp) _ s, foldl_field (·.stackMap) _ (fun s a => by simp) _ s, foldl_field (·.touches) _ (fun s a => by simp) _ s, foldl_field (·.backlog) _ (fun s a => by simp) _ s, foldl_field (·.stocktake) _ (fun s a => by simp) _ s, foldl_field (·.deck) _ (fun s a => by simp) _ s, foldl_field (·.trucks) _ (fun s a => by simp) _ s, foldl_field (·.arrivals) _ (fun s a => by simp) _ s, foldl_field (·.waiting) _ (fun s a => by simp) _ s, foldl_field (·.returns) _ (fun s a => by simp) _ s, foldl_field (·.planQueue) _ (fun s a => by simp) _ s, foldl_field (·.plan) _ (fun s a => by simp) _ s, foldl_field (·.tasks) _ (fun s a => by simp) _ s, foldl_field (·.lastId) _ (fun s a => by simp) _ s, foldl_field (·.loaders) _ (fun s a => by simp) _ s, foldl_field (·.shipLog) _ (fun s a => by simp) _ s, foldl_field (·.flags) _ (fun s a => by simp) _ s, foldl_field (·.pins) _ (fun s a => by simp) _ s, foldl_field (·.clock) _ (fun s a => by simp) _ s, foldl_field (·.wet) _ (fun s a => by simp) _ s, foldl_field (·.working) _ (fun s a => by simp) _ s, foldl_field (·.stored) _ (fun s a => by simp) _ s, foldl_field (·.writeList) _ (fun s a => by simp) _ s, foldl_field (·.writing) _ (fun s a => by simp) _ s, foldl_field (·.retained) _ (fun s a => by simp) _ s, foldl_field (·.marks) _ (fun s a => by simp) _ s⟩

@[simp] theorem State.cfgEffect_frame (k : SettingKind) (i o v : Nat) :
    (s.cfgEffect k i o v).pending = s.pending ∧ (s.cfgEffect k i o v).supply = s.supply ∧ (s.cfgEffect k i o v).cond = s.cond ∧
    (s.cfgEffect k i o v).cause = s.cause ∧ (s.cfgEffect k i o v).strap = s.strap ∧ (s.cfgEffect k i o v).packs = s.packs ∧
    (s.cfgEffect k i o v).stackMap = s.stackMap ∧ (s.cfgEffect k i o v).touches = s.touches ∧
    (s.cfgEffect k i o v).backlog = s.backlog ∧ (s.cfgEffect k i o v).stocktake = s.stocktake ∧
    (s.cfgEffect k i o v).deck = s.deck ∧ (s.cfgEffect k i o v).arrivals = s.arrivals ∧
    (s.cfgEffect k i o v).returns = s.returns ∧ (s.cfgEffect k i o v).lastId = s.lastId ∧
    (s.cfgEffect k i o v).shipLog = s.shipLog ∧ (s.cfgEffect k i o v).clock = s.clock ∧ (s.cfgEffect k i o v).wet = s.wet ∧
    (s.cfgEffect k i o v).working = s.working ∧ (s.cfgEffect k i o v).stored = s.stored ∧
    (s.cfgEffect k i o v).writeList = s.writeList ∧ (s.cfgEffect k i o v).writing = s.writing ∧
    (s.cfgEffect k i o v).retained = s.retained := by
  simp only [State.cfgEffect]
  repeat' split
  all_goals simp

@[simp] theorem State.giveToStore_frame (k : SettingKind) (i v : Nat) :
    (s.giveToStore k i v).pending = s.pending ∧ (s.giveToStore k i v).supply = s.supply ∧ (s.giveToStore k i v).cond = s.cond ∧
    (s.giveToStore k i v).cause = s.cause ∧ (s.giveToStore k i v).strap = s.strap ∧ (s.giveToStore k i v).ports = s.ports ∧
    (s.giveToStore k i v).packs = s.packs ∧ (s.giveToStore k i v).stackMap = s.stackMap ∧
    (s.giveToStore k i v).touches = s.touches ∧ (s.giveToStore k i v).backlog = s.backlog ∧
    (s.giveToStore k i v).stocktake = s.stocktake ∧ (s.giveToStore k i v).deck = s.deck ∧
    (s.giveToStore k i v).trucks = s.trucks ∧ (s.giveToStore k i v).arrivals = s.arrivals ∧
    (s.giveToStore k i v).waiting = s.waiting ∧ (s.giveToStore k i v).returns = s.returns ∧
    (s.giveToStore k i v).planQueue = s.planQueue ∧ (s.giveToStore k i v).plan = s.plan ∧
    (s.giveToStore k i v).tasks = s.tasks ∧ (s.giveToStore k i v).lastId = s.lastId ∧
    (s.giveToStore k i v).loaders = s.loaders ∧ (s.giveToStore k i v).shipLog = s.shipLog ∧
    (s.giveToStore k i v).flags = s.flags ∧ (s.giveToStore k i v).pins = s.pins ∧ (s.giveToStore k i v).clock = s.clock ∧
    (s.giveToStore k i v).wet = s.wet ∧ (s.giveToStore k i v).working = s.working ∧ (s.giveToStore k i v).stored = s.stored ∧
    (s.giveToStore k i v).writing = s.writing ∧ (s.giveToStore k i v).retained = s.retained ∧
    (s.giveToStore k i v).marks = s.marks := by
  simp only [State.giveToStore]
  repeat' split
  all_goals simp

@[simp] theorem State.applyCfg_frame (k : SettingKind) (i v : Nat) :
    (s.applyCfg k i v).pending = s.pending ∧ (s.applyCfg k i v).supply = s.supply ∧ (s.applyCfg k i v).cond = s.cond ∧
    (s.applyCfg k i v).cause = s.cause ∧ (s.applyCfg k i v).strap = s.strap ∧ (s.applyCfg k i v).packs = s.packs ∧
    (s.applyCfg k i v).stackMap = s.stackMap ∧ (s.applyCfg k i v).touches = s.touches ∧ (s.applyCfg k i v).backlog = s.backlog ∧
    (s.applyCfg k i v).stocktake = s.stocktake ∧ (s.applyCfg k i v).deck = s.deck ∧ (s.applyCfg k i v).arrivals = s.arrivals ∧
    (s.applyCfg k i v).returns = s.returns ∧ (s.applyCfg k i v).lastId = s.lastId ∧ (s.applyCfg k i v).shipLog = s.shipLog ∧
    (s.applyCfg k i v).clock = s.clock ∧ (s.applyCfg k i v).wet = s.wet ∧ (s.applyCfg k i v).stored = s.stored ∧
    (s.applyCfg k i v).writing = s.writing ∧ (s.applyCfg k i v).retained = s.retained := by
  simp only [State.applyCfg]
  all_goals simp

@[simp] theorem State.beginRetainedWrite_frame :
    (s.beginRetainedWrite).pending = s.pending ∧ (s.beginRetainedWrite).supply = s.supply ∧
    (s.beginRetainedWrite).cond = s.cond ∧ (s.beginRetainedWrite).cause = s.cause ∧ (s.beginRetainedWrite).strap = s.strap ∧
    (s.beginRetainedWrite).ports = s.ports ∧ (s.beginRetainedWrite).packs = s.packs ∧
    (s.beginRetainedWrite).stackMap = s.stackMap ∧ (s.beginRetainedWrite).touches = s.touches ∧
    (s.beginRetainedWrite).backlog = s.backlog ∧ (s.beginRetainedWrite).stocktake = s.stocktake ∧
    (s.beginRetainedWrite).deck = s.deck ∧ (s.beginRetainedWrite).trucks = s.trucks ∧
    (s.beginRetainedWrite).arrivals = s.arrivals ∧ (s.beginRetainedWrite).waiting = s.waiting ∧
    (s.beginRetainedWrite).returns = s.returns ∧ (s.beginRetainedWrite).planQueue = s.planQueue ∧
    (s.beginRetainedWrite).plan = s.plan ∧ (s.beginRetainedWrite).tasks = s.tasks ∧ (s.beginRetainedWrite).lastId = s.lastId ∧
    (s.beginRetainedWrite).loaders = s.loaders ∧ (s.beginRetainedWrite).shipLog = s.shipLog ∧
    (s.beginRetainedWrite).flags = s.flags ∧ (s.beginRetainedWrite).pins = s.pins ∧ (s.beginRetainedWrite).clock = s.clock ∧
    (s.beginRetainedWrite).wet = s.wet ∧ (s.beginRetainedWrite).working = s.working ∧
    (s.beginRetainedWrite).stored = s.stored ∧ (s.beginRetainedWrite).writeList = s.writeList ∧
    (s.beginRetainedWrite).writing = s.writing ∧ (s.beginRetainedWrite).marks = s.marks := by
  simp only [State.beginRetainedWrite]
  repeat' split
  all_goals simp

@[simp] theorem State.finish_frame :
    (s.finish).pending = s.pending ∧ (s.finish).supply = s.supply ∧ (s.finish).cond = s.cond ∧ (s.finish).cause = s.cause ∧
    (s.finish).strap = s.strap ∧ (s.finish).ports = s.ports ∧ (s.finish).packs = s.packs ∧ (s.finish).stackMap = s.stackMap ∧
    (s.finish).touches = s.touches ∧ (s.finish).backlog = s.backlog ∧ (s.finish).stocktake = s.stocktake ∧
    (s.finish).deck = s.deck ∧ (s.finish).trucks = s.trucks ∧ (s.finish).arrivals = s.arrivals ∧
    (s.finish).waiting = s.waiting ∧ (s.finish).returns = s.returns ∧ (s.finish).planQueue = s.planQueue ∧
    (s.finish).plan = s.plan ∧ (s.finish).tasks = s.tasks ∧ (s.finish).lastId = s.lastId ∧ (s.finish).loaders = s.loaders ∧
    (s.finish).shipLog = s.shipLog ∧ (s.finish).flags = s.flags ∧ (s.finish).clock = s.clock ∧ (s.finish).wet = s.wet ∧
    (s.finish).working = s.working ∧ (s.finish).stored = s.stored ∧ (s.finish).writeList = s.writeList ∧
    (s.finish).writing = s.writing ∧ (s.finish).marks = s.marks := by
  simp only [State.finish]
  all_goals simp

@[simp] theorem State.dropFrame_frame (p : Port) :
    (s.dropFrame p).pending = s.pending ∧ (s.dropFrame p).supply = s.supply ∧ (s.dropFrame p).cond = s.cond ∧
    (s.dropFrame p).cause = s.cause ∧ (s.dropFrame p).strap = s.strap ∧ (s.dropFrame p).packs = s.packs ∧
    (s.dropFrame p).stackMap = s.stackMap ∧ (s.dropFrame p).touches = s.touches ∧ (s.dropFrame p).backlog = s.backlog ∧
    (s.dropFrame p).stocktake = s.stocktake ∧ (s.dropFrame p).deck = s.deck ∧ (s.dropFrame p).trucks = s.trucks ∧
    (s.dropFrame p).arrivals = s.arrivals ∧ (s.dropFrame p).waiting = s.waiting ∧ (s.dropFrame p).returns = s.returns ∧
    (s.dropFrame p).planQueue = s.planQueue ∧ (s.dropFrame p).plan = s.plan ∧ (s.dropFrame p).tasks = s.tasks ∧
    (s.dropFrame p).lastId = s.lastId ∧ (s.dropFrame p).loaders = s.loaders ∧ (s.dropFrame p).shipLog = s.shipLog ∧
    (s.dropFrame p).flags = s.flags ∧ (s.dropFrame p).pins = s.pins ∧ (s.dropFrame p).clock = s.clock ∧
    (s.dropFrame p).wet = s.wet ∧ (s.dropFrame p).working = s.working ∧ (s.dropFrame p).stored = s.stored ∧
    (s.dropFrame p).writeList = s.writeList ∧ (s.dropFrame p).writing = s.writing ∧ (s.dropFrame p).retained = s.retained ∧
    (s.dropFrame p).marks = s.marks := by
  simp only [State.dropFrame]
  repeat' split
  all_goals simp

end Sys2Proof.Machine
end

