-- ==== Sys2Proof/Laws/Table.lean ====
section
/-! SUPPORT. The laws of tables keyed by a number: reading after writing, and the canonical form kept. -/
namespace Sys2Proof.Machine.Tab

variable {α : Type}

@[simp] theorem get?_nil (k : Nat) : get? ([] : List (Nat × α)) k = none := rfl

@[simp] theorem get?_put_same (t : List (Nat × α)) (k : Nat) (v : α) : get? (put t k v) k = some v := by
  induction t with
  | nil => simp [put, get?]
  | cons e t ih =>
    obtain ⟨i, w⟩ := e
    simp only [put]
    split
    · simp [get?]
    · split
      · simp [get?]
      · simp only [get?]
        rw [if_neg (by omega), ih]

theorem get?_put_other (t : List (Nat × α)) {k j : Nat} (v : α) (h : j ≠ k) : get? (put t k v) j = get? t j := by
  induction t with
  | nil => simp [put, get?, h.symm]
  | cons e t ih =>
    obtain ⟨i, w⟩ := e
    simp only [put]
    split
    · simp [get?, h.symm]
    · split
      · subst_vars; simp [get?, h.symm]
      · simp only [get?, ih]

@[simp] theorem get?_erase_same (t : List (Nat × α)) (k : Nat) : get? (erase t k) k = none := by
  induction t with
  | nil => rfl
  | cons e t ih =>
    obtain ⟨i, w⟩ := e
    simp only [erase]
    split
    · exact ih
    · simp_all [get?]

theorem get?_erase_other (t : List (Nat × α)) {k j : Nat} (h : j ≠ k) : get? (erase t k) j = get? t j := by
  induction t with
  | nil => rfl
  | cons e t ih =>
    obtain ⟨i, w⟩ := e
    simp only [erase]
    split
    · subst_vars; simp [get?, h.symm, ih]
    · simp only [get?, ih]

@[simp] theorem getD_putD_same [DecidableEq α] (d : α) (t : List (Nat × α)) (k : Nat) (v : α) :
    getD (putD d t k v) k d = v := by
  unfold getD putD
  split <;> simp_all

theorem getD_putD_other [DecidableEq α] (d : α) (t : List (Nat × α)) {k j : Nat} (v : α) (h : j ≠ k) :
    getD (putD d t k v) j d = getD t j d := by
  unfold getD putD
  split
  · rw [get?_erase_other _ h]
  · rw [get?_put_other _ _ h]

theorem get?_modify_same (t : List (Nat × α)) (k : Nat) (f : α → α) : get? (modify t k f) k = (get? t k).map f := by
  unfold modify
  split <;> simp_all

theorem get?_modify_other (t : List (Nat × α)) {k j : Nat} (f : α → α) (h : j ≠ k) : get? (modify t k f) j = get? t j := by
  unfold modify
  split
  · rfl
  · exact get?_put_other _ _ h

-- The canonical form.

theorem risesFrom_mono {n : Nat} {t : List (Nat × α)} {a b : Nat} (h : a ≤ b) (hb : risesFrom n t b = true) :
    risesFrom n t a = true := by
  cases t with
  | nil => rfl
  | cons e t =>
    obtain ⟨i, w⟩ := e
    simp only [risesFrom, Bool.and_eq_true, decide_eq_true_eq] at hb ⊢
    exact ⟨⟨by omega, hb.1.2⟩, hb.2⟩

theorem put_risesFrom {n : Nat} {t : List (Nat × α)} {a k : Nat} (v : α) (ha : a ≤ k) (hk : k < n)
    (ht : risesFrom n t a = true) : risesFrom n (put t k v) a = true := by
  induction t generalizing a with
  | nil => simp [put, risesFrom, ha, hk]
  | cons e t ih =>
    obtain ⟨i, w⟩ := e
    simp only [risesFrom, Bool.and_eq_true, decide_eq_true_eq] at ht
    simp only [put]
    split
    · rename_i hki
      simp only [risesFrom, Bool.and_eq_true, decide_eq_true_eq]
      exact ⟨⟨ha, hk⟩, ⟨by omega, ht.1.2⟩, ht.2⟩
    · split
      · subst_vars
        simp only [risesFrom, Bool.and_eq_true, decide_eq_true_eq]
        exact ⟨⟨ha, hk⟩, ht.2⟩
      · simp only [risesFrom, Bool.and_eq_true, decide_eq_true_eq]
        exact ⟨ht.1, ih (by omega) ht.2⟩

theorem erase_risesFrom {n : Nat} {t : List (Nat × α)} {a : Nat} (k : Nat) (ht : risesFrom n t a = true) :
    risesFrom n (erase t k) a = true := by
  induction t generalizing a with
  | nil => rfl
  | cons e t ih =>
    obtain ⟨i, w⟩ := e
    simp only [risesFrom, Bool.and_eq_true, decide_eq_true_eq] at ht
    simp only [erase]
    split
    · exact ih (risesFrom_mono (by omega) ht.2)
    · simp only [risesFrom, Bool.and_eq_true, decide_eq_true_eq]
      exact ⟨ht.1, ih ht.2⟩

/-- Writing a key inside the table's range keeps the canonical form. -/
theorem put_keeps_wf {n : Nat} {t : List (Nat × α)} {k : Nat} (v : α) (hk : k < n) (ht : wf n t = true) :
    wf n (put t k v) = true := put_risesFrom v (Nat.zero_le _) hk ht

/-- Removing a key keeps the canonical form. -/
theorem erase_keeps_wf {n : Nat} {t : List (Nat × α)} (k : Nat) (ht : wf n t = true) : wf n (erase t k) = true :=
  erase_risesFrom k ht

theorem putD_keeps_wf [DecidableEq α] (d : α) {n : Nat} {t : List (Nat × α)} {k : Nat} (v : α) (hk : k < n)
    (ht : wf n t = true) : wf n (putD d t k v) = true := by
  unfold putD
  split
  · exact erase_keeps_wf k ht
  · exact put_keeps_wf v hk ht

theorem get?_lt {n : Nat} {t : List (Nat × α)} {a k : Nat} {v : α} (ht : risesFrom n t a = true) (h : get? t k = some v) :
    k < n := by
  induction t generalizing a with
  | nil => simp at h
  | cons e t ih =>
    obtain ⟨i, w⟩ := e
    simp only [risesFrom, Bool.and_eq_true, decide_eq_true_eq] at ht
    simp only [get?] at h
    split at h
    · omega
    · exact ih ht.2 h

/-- Changing a listed key keeps the canonical form. -/
theorem modify_keeps_wf {n : Nat} {t : List (Nat × α)} (k : Nat) (f : α → α) (ht : wf n t = true) : wf n (modify t k f) = true := by
  unfold modify
  split
  · exact ht
  · exact put_keeps_wf _ (get?_lt ht ‹_›) ht

-- The first free key.

/-- A key below the start of a rising table is not listed. -/
theorem get?_below {n : Nat} {t : List (Nat × α)} {a k : Nat} (ht : risesFrom n t a = true) (hk : k < a) : get? t k = none := by
  induction t generalizing a with
  | nil => rfl
  | cons e t ih =>
    obtain ⟨i, v⟩ := e
    simp only [risesFrom, Bool.and_eq_true, decide_eq_true_eq] at ht
    simp only [get?]
    rw [if_neg (by omega)]
    exact ih ht.2 (by omega)

/-- The first free key is at or above the start, not listed, and every key before it is listed (R1, R75). -/
theorem firstFree_spec {n : Nat} {t : List (Nat × α)} {a : Nat} (ht : risesFrom n t a = true) :
    a ≤ firstFree t a ∧ firstFree t a ≤ a + t.length ∧ get? t (firstFree t a) = none ∧
      ∀ j, a ≤ j → j < firstFree t a → get? t j ≠ none := by
  induction t generalizing a with
  | nil => simp only [firstFree, List.length_nil, Nat.add_zero, get?_nil]; exact ⟨Nat.le_refl _, Nat.le_refl _, trivial, fun j h1 h2 => absurd h2 (by omega)⟩
  | cons e t ih =>
    obtain ⟨i, v⟩ := e
    simp only [risesFrom, Bool.and_eq_true, decide_eq_true_eq] at ht
    obtain ⟨⟨h1, h2⟩, h3⟩ := ht
    simp only [firstFree]
    split
    · subst i
      obtain ⟨g1, g2, g3, g4⟩ := ih h3
      refine ⟨by omega, by simp only [List.length_cons]; omega, ?_, ?_⟩
      · simp only [get?]
        rw [if_neg (by omega)]
        exact g3
      · intro j hj1 hj2
        simp only [get?]
        split
        · simp
        · exact g4 j (by omega) hj2
    · rw [if_neg (by omega)]
      refine ⟨by omega, by simp, ?_, by omega⟩
      simp only [get?]
      rw [if_neg (by omega)]
      exact get?_below h3 (by omega)

-- Writes upon writes, and what is listed.

theorem put_put (t : List (Nat × α)) (k : Nat) (v w : α) : put (put t k v) k w = put t k w := by
  induction t with
  | nil => simp [put]
  | cons e t ih =>
    obtain ⟨i, x⟩ := e
    simp only [put]
    split
    · simp [put]
    · split
      · simp [put]
      · rename_i h1 h2
        simp only [put, if_neg h1, if_neg h2, ih]

/-- A listed key changed is that key written. -/
theorem modify_listed {t : List (Nat × α)} {k : Nat} {v : α} (f : α → α) (h : get? t k = some v) : modify t k f = put t k (f v) := by
  simp [modify, h]

/-- In a rising table what is listed is what its key reads as. -/
theorem get?_of_mem {n : Nat} {t : List (Nat × α)} {a k : Nat} {v : α} (ht : risesFrom n t a = true) (h : (k, v) ∈ t) :
    get? t k = some v := by
  induction t generalizing a with
  | nil => simp at h
  | cons e t ih =>
    obtain ⟨i, x⟩ := e
    simp only [risesFrom, Bool.and_eq_true, decide_eq_true_eq] at ht
    rcases List.mem_cons.1 h with h | h
    · cases h
      simp [get?]
    · have hk := ih ht.2 h
      have : k ≠ i := by
        rintro rfl
        rw [get?_below ht.2 (Nat.lt_succ_self _)] at hk
        exact absurd hk (by simp)
      simp only [get?]
      rw [if_neg (Ne.symm this)]
      exact hk

theorem mem_of_get? {t : List (Nat × α)} {k : Nat} {v : α} (h : get? t k = some v) : (k, v) ∈ t := by
  induction t with
  | nil => simp at h
  | cons e t ih =>
    obtain ⟨i, x⟩ := e
    simp only [get?] at h
    split at h
    · subst i
      cases h
      exact List.mem_cons_self
    · exact List.mem_cons_of_mem _ (ih h)

end Sys2Proof.Machine.Tab
end

