-- ==== Sys2Proof/Laws/Settling.lean ====
section
/-! SUPPORT. What the end of a step does: the settling with nothing owed, the lines, the Retained Store, and the answer of a port. -/
namespace Sys2Proof.Machine

variable (s : State)

-- Ports.

theorem portNum_injective {p q : Port} (h : portNum p = portNum q) : p = q := by
  cases p <;> cases q <;> simp only [portNum] at h <;> first | rfl | omega | exact congrArg Port.l (Fin.ext (by omega))

@[simp] theorem State.port_setPort_same (p : Port) (r : PortRec) : (s.setPort p r).port p = r := by
  simp [State.port, State.setPort]

theorem State.port_setPort_other {p q : Port} (r : PortRec) (h : q ≠ p) : (s.setPort p r).port q = s.port q := by
  simp only [State.port, State.setPort]
  exact Tab.getD_putD_other _ _ _ (fun e => h (portNum_injective e))

theorem State.port_congr {s t : State} (h : t.ports = s.ports) (p : Port) : t.port p = s.port p := by simp [State.port, h]

-- A frame heard (R142).

theorem State.asHeard_effective (n : Nat) : (s.asHeard n).effective n = effectiveOf (s.loader n).mode true := by
  simp [State.asHeard, State.effective, State.loader, State.setLoader]

/-- What the arrival of a valid frame does (R142, R144): the loader is heard, and comes up if it was down and its office mode lets it. -/
theorem State.linkUp_eq (n : Nat) :
    s.linkUp n =
      if (s.effective n).up = false ∧ (s.loader n).mode ≠ .offline then (s.asHeard n).comeUp else s.asHeard n := by
  have e : s.linkUp n = (s.asHeard n).judgeLoader n (s.effective n) := rfl
  rw [e, State.judgeLoader, State.asHeard_effective]
  cases hm : (s.loader n).mode <;> cases hl : (s.loader n).linked <;>
    simp [State.effective, hm, hl, effectiveOf, EffState.up]

theorem State.hear_clearMarks (p : Port) : s.clearMarks.hear p = (s.hear p).clearMarks := by
  cases p with
  | l n =>
    simp only [State.hear, loaderOf, State.linkUp_eq]
    have h1 : s.clearMarks.effective n.val = s.effective n.val := rfl
    have h2 : s.clearMarks.loader n.val = s.loader n.val := rfl
    rw [h1, h2]
    split <;> rfl
  | g => rfl
  | t => rfl
  | o => rfl

/-- A station's frame changes no loader. -/
@[simp] theorem State.hear_station {p : Port} (h : isStation p = true) : s.hear p = s := by
  cases p <;> first | rfl | simp [isStation] at h

-- The settling.

theorem State.stage_quiet (owed : State → Bool) (f : State → State) (h : owed s = false) : s.stage owed f = s := by
  simp [State.stage, h]

/-- With nothing owed the settling changes nothing. -/
theorem State.settle_quiet (h : s.marks = {}) : s.settle = s := by
  have stay : ∀ (owed : State → Bool) (f : State → State), owed s = false → s.stage owed f = s := s.stage_quiet
  simp only [State.settle, stay, h, Bool.or_self]
  simp [State.clearMarks, ← h]

@[simp] theorem State.settle_clearMarks : s.clearMarks.settle = s.clearMarks := State.settle_quiet _ rfl

@[simp] theorem State.settle_marks : s.settle.marks = {} := rfl

-- The lines (R178, R179).

theorem Event.mem_all (e : Event) : e ∈ Event.all := by cases e <;> decide

theorem State.lineOn_iff (n : Nat) : s.lineOn n = true ↔ ∃ e, s.flag e = true ∧ s.route e = some n := by
  simp only [State.lineOn, List.any_eq_true, Bool.and_eq_true, beq_iff_eq]
  exact ⟨fun ⟨e, _, h⟩ => ⟨e, h⟩, fun ⟨e, h⟩ => ⟨e, Event.mem_all e, h⟩⟩

theorem State.judgeLines_law : s.judgeLines.LinesLaw := by
  refine ⟨by simp [State.judgeLines], fun n hn => ?_, by simp [State.judgeLines]⟩
  have hf : ∀ e, s.judgeLines.flag e = s.flag e := fun _ => rfl
  have hr : ∀ e, s.judgeLines.route e = s.route e := fun _ => rfl
  simp only [hf, hr, ← State.lineOn_iff]
  simp [State.judgeLines, List.getElem?_map, List.getElem?_range hn]

theorem State.linesLaw_of_judgeLines {s t : State} (hp : t.pins = s.judgeLines.pins) (hf : t.flags = s.flags)
    (hw : t.working = s.working) (hc : t.cond = s.cond) : t.LinesLaw := by
  have h := State.judgeLines_law s
  have e1 : ∀ e, t.flag e = s.judgeLines.flag e := fun e => by simp [State.flag, hf, State.judgeLines]
  have e2 : ∀ e, t.route e = s.judgeLines.route e := fun e => by
    have : t.setting .route e.bit = s.judgeLines.setting .route e.bit := by simp only [State.setting, hw]; rfl
    simp only [State.route, this]
  unfold State.LinesLaw
  simp only [e1, e2, hp, hc]
  exact h

@[simp] theorem State.finish_ports : s.finish.ports = s.ports := by simp

theorem State.finish_linesLaw : s.finish.LinesLaw := by
  unfold State.finish
  have hp : s.judgeLines.beginRetainedWrite.pins = s.judgeLines.pins := by simp
  exact State.linesLaw_of_judgeLines (s := s) hp (by simp [State.judgeLines]) (by simp [State.judgeLines]) (by simp [State.judgeLines])

@[simp] theorem State.finish_marks : s.finish.marks = s.marks := by simp

-- The Retained Store (R189).

theorem State.finish_retainedContent : s.finish.retainedContent = s.retainedContent := by
  simp [State.retainedContent, State.loader]

theorem RetainedStore.holds_iff (r : RetainedStore) (c : RetainedRecord) : r.Holds c ↔ r.kept.ok = true ∧ r.kept.content = c := by
  simp only [RetainedStore.Holds, RetainedStore.kept, RetainedStore.writesA, decide_eq_true_eq]
  split <;> rfl

/-- The end of a step begins an image write exactly where one is due. -/
theorem State.finish_retained :
    s.finish.retained =
      if s.supply = true ∧ s.retained.write = none ∧ ¬ s.retained.Holds s.retainedContent then
        { s.retained.onOlder (fun i => { i with ok := false }) with write := some s.retainedContent }
      else s.retained := by
  simp only [RetainedStore.holds_iff]
  unfold State.finish State.beginRetainedWrite
  split <;> rename_i h
  · exact (if_pos h).symm
  · exact (if_neg h).symm

theorem State.finish_storeFollows {s u : State} (h : u.retained = s.retained) : s.StoreFollows u.finish := by
  have hs : u.finish.supply = u.supply := by simp
  rw [State.StoreFollows, State.finish_retainedContent, State.finish_retained, hs, h]
  refine ⟨fun h1 h2 h3 => ?_, fun h1 => ?_⟩
  · rw [if_pos ⟨h1, h2, h3⟩]
    simp only [RetainedStore.onOlder, RetainedStore.writesA, decide_eq_true_eq]
  · refine if_neg fun ⟨h2, h3, h4⟩ => ?_
    rcases h1 with h1 | h1 | h1
    · simp_all
    · exact h1 h3
    · exact h4 h1

/-- The end of a step on a state that owes nothing: the lines follow, nothing is owed, the Retained Store follows. -/
theorem State.finish_settled {s u : State} (h : u.retained = s.retained) (hm : u.marks = {}) : s.Settled u.finish :=
  ⟨u.finish_linesLaw, by simp [State.Quiet, hm], State.finish_storeFollows h⟩

-- The yard.

@[simp] theorem State.finish_yard : s.finish.yard = s.yard := by
  unfold State.finish State.beginRetainedWrite
  split <;> rfl

@[simp] theorem State.putAnswer_yard (p : Port) (rx : List Byte) (code : Nat) (a : Answer) :
    (s.putAnswer p rx code a).yard = s.yard := rfl

@[simp] theorem State.setPort_yard (p : Port) (r : PortRec) : (s.setPort p r).yard = s.yard := rfl

@[simp] theorem State.clearMarks_yard : s.clearMarks.yard = s.yard := rfl

-- A frame served.

/-- A request taken for an answer: what it gives is settled and finished, and the answer stands in its port's buffer. -/
theorem State.exchange_served {s : State} {p : Port} {rx : List Byte} {code : Nat} {act : Act} (h : s.Takes p)
    (hp : (act (s.clearMarks.hear p)).1.ports = s.ports) (hr : (act (s.clearMarks.hear p)).1.retained = s.retained) :
    s.Served (s.exchange p rx code act) p (answerCode code)
        ((act (s.clearMarks.hear p)).2 (act (s.clearMarks.hear p)).1.settle) ∧
      (s.exchange p rx code act).yard = (act (s.clearMarks.hear p)).1.settle.yard := by
  have hl : s.listens p = true := by simp [State.listens, h.1, h.2]
  simp only [State.exchange, hl, if_true]
  generalize (act (s.clearMarks.hear p)).1 = u at *
  generalize (act (s.clearMarks.hear p)).2 = f at *
  have hpt : u.settle.ports = s.ports := by simp [hp]
  refine ⟨⟨?_, fun q hq => ?_, State.finish_settled (by simp [State.putAnswer, State.setPort, hr]) (by rfl)⟩, by simp⟩
  · rw [State.port_congr (State.finish_ports _)]
    exact ⟨rx, by simp only [State.putAnswer, State.port_setPort_same, State.port_congr hpt]⟩
  · rw [State.port_congr (State.finish_ports _)]
    simp only [State.putAnswer]
    rw [State.port_setPort_other _ _ hq, State.port_congr hpt]

/-- A frame that arrives while its port takes none is lost (R170). -/
theorem State.exchange_lost {s : State} {p : Port} {rx : List Byte} {code : Nat} {act : Act} (h : ¬ s.Takes p) :
    s.exchange p rx code act = s := by
  have hl : s.listens p = false := by
    unfold State.Takes at h
    unfold State.listens
    cases hs : s.supply
    · rfl
    · simp_all
  simp [State.exchange, hl]

/-- An event of the model with no answer, on a state whose ports it leaves. -/
theorem State.whole_unasked {s : State} {f : State → State} (hp : (f s.clearMarks).ports = s.ports)
    (hr : (f s.clearMarks).retained = s.retained) :
    s.Unasked (s.whole f) ∧ (s.whole f).yard = (f s.clearMarks).settle.yard := by
  unfold State.whole State.event
  generalize f s.clearMarks = u at *
  refine ⟨⟨fun q => ?_, State.finish_settled (by simp [hr]) (by rfl)⟩, by simp⟩
  rw [State.port_congr (State.finish_ports _), State.port_congr (by simp [hp] : u.settle.ports = s.ports)]

end Sys2Proof.Machine
end

