-- ==== Sys2Proof/Laws/Settled.lean ====
section
/-! SUPPORT. What the settling keeps beyond its frame: the Pack Table always, the plan in flight while there is one, and the trucks when
neither admission nor the end of an unloading or a cancellation is owed. -/
namespace Sys2Proof.Machine

variable (s : State)

theorem State.planInFlight_congr {s t : State} (h : t.plan = s.plan) (slot : Nat) : t.planInFlight slot = s.planInFlight slot := by
  simp [State.planInFlight, h]

/-- The freeing of a slot whose plan is not in flight touches neither the packs nor the plan (R93). -/
theorem State.freeSlot_keeps {slot : Nat} (h : s.planInFlight slot = false) :
    (s.freeSlot slot).packs = s.packs ∧ (s.freeSlot slot).plan = s.plan := by
  have e : State.planInFlight { s.leaveWaiting slot with
      planQueue := takeOut slot (s.leaveWaiting slot).planQueue
      returns := (s.leaveWaiting slot).returns.filter (fun r => !(r.slot == slot)) } slot = false := by
    rw [State.planInFlight_congr (s := s) (by simp)]
    exact h
  simp only [State.freeSlot, e]
  split <;> simp [State.markAdmit]

theorem State.completeCancel_keeps (slot : Nat) :
    (s.completeCancel slot).packs = s.packs ∧ (s.completeCancel slot).plan = s.plan := by
  unfold State.completeCancel
  split
  · exact ⟨rfl, rfl⟩
  · split
    · exact s.freeSlot_keeps (by simp_all)
    · exact ⟨rfl, rfl⟩

theorem State.watchTrucks_keeps : s.watchTrucks.packs = s.packs ∧ s.watchTrucks.plan = s.plan := by
  simp only [State.watchTrucks]
  constructor
  · rw [foldl_field (·.packs) State.completeCancel (fun s n => (s.completeCancel_keeps n).1)]
    simp
  · rw [foldl_field (·.plan) State.completeCancel (fun s n => (s.completeCancel_keeps n).2)]
    simp

/-- The settling never touches the Pack Table. -/
@[simp] theorem State.settle_packs : s.settle.packs = s.packs :=
  settle_field (·.packs) s (h5 := fun s => s.watchTrucks_keeps.1)

@[simp] theorem State.settle_pack? (i : Nat) : s.settle.pack? i = s.pack? i := by simp [State.pack?]

end Sys2Proof.Machine
end

