-- ==== Sys2Proof/Laws/Answers.lean ====
section
/-! SUPPORT. What the statements about a command cite: how a row's arm reaches `State.Answers` and `State.Does`. -/
namespace Sys2Proof.Machine

/-- An answered row: its act on the state that has heard the frame gives a state and an answer, and these are what the row leaves. -/
theorem State.answers_of {s : State} {i : Instr} {p : Port} {rx : List Byte} {code c : Nat} {act : Act} {u : State}
    {f : State → Answer} {a : Answer}
    (he : exec i s = .next (s.exchange p rx code act)) (h : s.Takes p) (ha : act (s.hear p).clearMarks = (u, f))
    (hp : u.ports = s.ports) (hr : u.retained = s.retained) (hc : answerCode code = c) (hans : f u.settle = a) :
    s.Answers i p c a u.settle := by
  have hs := State.exchange_served (s := s) (p := p) (rx := rx) (code := code) (act := act) h
  rw [State.hear_clearMarks, ha] at hs
  subst hc
  subst hans
  exact ⟨_, he, hs hp hr⟩

theorem State.Answers.of_yard {s : State} {i : Instr} {p : Port} {c : Nat} {a : Answer} {u v : State}
    (h : s.Answers i p c a u) (e : u.yard = v.yard) : s.Answers i p c a v := by
  obtain ⟨t, h1, h2, h3⟩ := h
  exact ⟨t, h1, h2, h3.trans e⟩

/-- An answered row whose act changes nothing. -/
theorem State.answers_same {s : State} {i : Instr} {p : Port} {rx : List Byte} {code c : Nat} {act : Act} {a : Answer}
    (he : exec i s = .next (s.exchange p rx code act)) (h : s.Takes p)
    (ha : act (s.hear p).clearMarks = ((s.hear p).clearMarks, fun _ => a)) (hc : answerCode code = c) :
    s.Answers i p c a (s.hear p) := by
  have hs := State.answers_of he h ha (by simp) (by simp) hc rfl
  rw [State.settle_clearMarks] at hs
  exact hs.of_yard rfl

/-- A message the link lets through is carried out by its owning rule. -/
theorem State.gated_open {s : State} {m : Msg} {p : Port} {len want : Nat} (act : Act) (h : s.linkAnswer m p len want = none) :
    gated m p len want act s = act s := by
  simp [gated, h]

/-- A permitted message of the right length, taken while the yard is READY and its loader is not OFFLINE, passes the link. -/
theorem State.linkAnswer_none {s : State} {m : Msg} {p : Port} {len : Nat} (hp : m.permitted p = true) (hc : s.cond = .ready)
    (ho : m.refusedOffline = false ∨ s.portOffline p = false) : s.linkAnswer m p len len = none := by
  simp only [State.linkAnswer, hp, hc]
  rcases ho with ho | ho <;> simp [ho]

/-- A row without an answer: what its event leaves. -/
theorem State.does_of {s : State} {i : Instr} {f : State → State} {u : State} (he : exec i s = .next (s.whole f))
    (hu : f s.clearMarks = u) (hp : u.ports = s.ports) (hr : u.retained = s.retained) : s.Does i u.settle := by
  subst hu
  exact ⟨_, he, State.whole_unasked hp hr⟩

/-- A station's message served by its owning rule (R171): the act on the state as it stands gives what the row leaves and answers. -/
theorem State.station_answers {s : State} {i : Instr} {m : Msg} {p : Port} {len c : Nat} {fields : List Byte} {act : Act}
    {u v : State} {f : State → Answer} {a : Answer}
    (he : exec i s = .next (s.request m p len len fields act)) (h : s.Serves p) (hst : isStation p = true)
    (hm : m.permitted p = true) (ha : act s.clearMarks = (u, f)) (hp : u.ports = s.ports) (hr : u.retained = s.retained)
    (hc : answerCode m.code = c) (hans : f u.settle = a) (hy : u.settle.yard = v.yard) : s.Answers i p c a v := by
  have ho : m.refusedOffline = false ∨ s.clearMarks.portOffline p = false := by
    right
    cases p <;> first | rfl | simp [isStation] at hst
  refine (State.answers_of (act := gated m p len len act) (u := u) he h.1 ?_ hp hr hc hans).of_yard hy
  rw [State.hear_station s hst, State.gated_open act (State.linkAnswer_none (s := s.clearMarks) hm h.2 ho), ha]

/-- A loader's message served by its owning rule, its loader having been heard (R142, R171). -/
theorem State.loader_answers {s : State} {i : Instr} {m : Msg} {n : Fin 8} {len c : Nat} {fields : List Byte} {act : Act}
    {u v : State} {f : State → Answer} {a : Answer}
    (he : exec i s = .next (s.request m (.l n) len len fields act)) (h : s.Works n) (hm : m.permitted (.l n) = true)
    (ha : act (s.hear (.l n)).clearMarks = (u, f)) (hp : u.ports = s.ports) (hr : u.retained = s.retained)
    (hc : answerCode m.code = c) (hans : f u.settle = a) (hy : u.settle.yard = v.yard) : s.Answers i (.l n) c a v := by
  have ho : (s.hear (.l n)).clearMarks.portOffline (.l n) = false := by
    have e : (s.hear (.l n)).clearMarks.portOffline (.l n) = ((s.asHeard n.val).effective n.val == .offline) := by
      simp only [State.hear, loaderOf, State.linkUp_eq]
      split <;> rfl
    rw [e, State.asHeard_effective]
    have := h.2
    cases hmode : (s.loader n.val).mode <;> simp_all [effectiveOf]
  refine (State.answers_of (act := gated m (.l n) len len act) (u := u) he h.1.1 ?_ hp hr hc hans).of_yard hy
  rw [State.gated_open act (State.linkAnswer_none hm (by simp [h.1.2]) (.inr ho)), ha]

/-- A station's message served by an act that changes nothing. -/
theorem State.station_same {s : State} {i : Instr} {m : Msg} {p : Port} {len c : Nat} {fields : List Byte} {act : Act}
    {f : State → Answer} {a : Answer}
    (he : exec i s = .next (s.request m p len len fields act)) (h : s.Serves p) (hst : isStation p = true) (hm : m.permitted p = true)
    (ha : act s.clearMarks = (s.clearMarks, f)) (hc : answerCode m.code = c) (hf : f s.clearMarks = a) : s.Answers i p c a s :=
  State.station_answers he h hst hm ha rfl rfl hc (by rw [State.settle_clearMarks]; exact hf) (by rw [State.settle_clearMarks]; rfl)

/-- A loader's message served by an act that changes nothing, its loader having been heard. -/
theorem State.loader_same {s : State} {i : Instr} {m : Msg} {n : Fin 8} {len c : Nat} {fields : List Byte} {act : Act}
    {f : State → Answer} {a : Answer}
    (he : exec i s = .next (s.request m (.l n) len len fields act)) (h : s.Works n) (hm : m.permitted (.l n) = true)
    (ha : act (s.hear (.l n)).clearMarks = ((s.hear (.l n)).clearMarks, f)) (hc : answerCode m.code = c)
    (hf : f (s.hear (.l n)).clearMarks = a) : s.Answers i (.l n) c a (s.hear (.l n)) :=
  State.loader_answers he h hm ha (by simp) (by simp) hc (by rw [State.settle_clearMarks]; exact hf)
    (by rw [State.settle_clearMarks]; rfl)

/-- A permitted message of the right length taken while the yard is STARTING (R171, R184). -/
theorem State.starting_answers {s : State} {i : Instr} {m : Msg} {p : Port} {len c : Nat} {fields : List Byte} {act : Act}
    (he : exec i s = .next (s.request m p len len fields act)) (h : s.Takes p) (hst : isStation p = true) (hm : m.permitted p = true)
    (hs : s.cond = .starting) (hne : m ≠ .status) (hc : answerCode m.code = c) : s.Answers i p c (.only .starting) s := by
  have := State.answers_same (act := gated m p len len act) (a := .only .starting) he h
    (by rw [State.hear_station s hst]; simp [gated, State.linkAnswer, hm, hs, hne, State.clearMarks]) hc
  rwa [State.hear_station s hst] at this

/-- Every message row is a request of its frame (R171). -/
theorem exec_frame {i : Instr} {f : Frame} {s : State} (h : frameOf i = some f) :
    ∃ act, exec i s = .next (s.request f.msg f.port f.len f.want f.fields act) := by
  cases i <;> simp only [frameOf, Option.some.injEq, reduceCtorEq] at h <;> subst h <;> exact ⟨_, rfl⟩

theorem validTag_iff (v : Nat) : validTag v = true ↔ 1 ≤ v ∧ v ≤ 4294967294 := by
  show (decide (1 ≤ v) && decide (v ≤ 4294967294)) = true ↔ _
  simp

/-- A code outside Table 10-4 names no message. -/
theorem Msg.ofCode_none (code : Nat) (h : knownCode code = false) : Msg.ofCode code = none := by
  simp only [Msg.ofCode, List.find?_eq_none]
  intro m _
  cases m <;> simp [Msg.code] <;> intro e <;> subst e <;> simp [knownCode] at h

end Sys2Proof.Machine
end

