-- ==== Sys2Proof/Machine/Reception.lean ====
section
/-! DEFINITION. The reception of a frame byte by byte (R169). The command table has no row for one byte: its rows are the A5h, the three
discards and the good frame, each a command of its own (log 5). These operations say which of those rows each byte brings about, and what
the receive buffer holds between them. -/
namespace Sys2Proof.Machine

/-- What a byte makes of a port's record, and the command it brings about, if it does (R169, R170): a HUNTING port discards every byte but
A5h; a RECEIVING port takes it into the receive buffer; an ANSWERING port discards it. -/
def PortRec.receive (p : Port) (r : PortRec) (b : Byte) : PortRec × Option Instr :=
  match r.cond with
  | .hunting => (r, if b = 0xA5#8 then some (.startByteReceived p) else none)
  | .receiving => ({ r with rx := r.rx ++ [b] }, frameCommand p (r.rx ++ [b]))
  | .answering => (r, none)

/-- A byte arrives at a port: it is taken in, and the command it brings about is carried out (R169). Without the main supply it is lost
(R183). -/
def State.byteArrives (s : State) (p : Port) (b : Byte) : Host.Outcome State Fault Refusal :=
  if s.supply then
    match (s.port p).receive p b with
    | (r, none) => .next (s.setPort p r)
    | (r, some i) => exec i (s.setPort p r)
  else .next s

/-- Bytes arrive at a port one after another (R169). -/
def State.bytesArrive (s : State) (p : Port) : List Byte → Host.Outcome State Fault Refusal
  | [] => .next s
  | b :: rest =>
    match s.byteArrives p b with
    | .next t => t.bytesArrive p rest
    | stopped => stopped

end Sys2Proof.Machine
end

