-- ==== Sys2Proof/Laws/Stages.lean ====
section
/-! SUPPORT. What the operations behind a settling and a plan do, once each: the stages of the settling, the freeing of a slot, admission,
the creators and the feeder, retry and re-resolution, the end of a reservation, replan requests and new stock, the issue rule, the order of
a plan's stacks, and a good frame's bytes. -/
namespace Sys2Proof.Machine

variable (s : State)

-- The settling.

/-- A stage owed for either of two reasons. -/
theorem State.stage_either (a b : State → Bool) (f : State → State) :
    s.stage (fun s => a s || b s) f = if a s = true ∨ b s = true then f s else s := by
  simp only [State.stage, Bool.or_eq_true]

/-- The settling, stage by stage. -/
theorem State.settle_eq :
    s.settle =
      (let s1 := if s.marks.watch = true then s.listAllCancelled else s
      let s2 := if s1.marks.space = true then s1.retry else s1
      let s3 := if s2.marks.freed = true ∨ s2.marks.serve = true then s2.serveReturns else s2
      let s4 := if s3.marks.freed = true ∨ s3.marks.puts = true then s3.servePuts else s3
      let s5 := if s4.marks.watch = true then s4.watchTrucks else s4
      let s6 := if s5.marks.lanes = true then s5.admission else s5
      let s7 := if s6.marks.gate = true then s6.judgeGate else s6
      let s8 := if s7.marks.freed = true ∨ s7.marks.engine = true then s7.judgeEngine else s7
      let s9 := if s8.marks.freed = true ∨ s8.marks.feed = true then s8.feed else s8
      let s10 := if s9.marks.take = true then s9.judgeStocktake else s9
      { s10 with marks := {} }) := by
  extract_lets s1 s2 s3 s4 s5 s6 s7 s8 s9 s10
  have h3 : s2.stage (fun s => s.marks.freed || s.marks.serve) State.serveReturns = s3 := State.stage_either ..
  have h4 : s3.stage (fun s => s.marks.freed || s.marks.puts) State.servePuts = s4 := State.stage_either ..
  have h8 : s7.stage (fun s => s.marks.freed || s.marks.engine) State.judgeEngine = s8 := State.stage_either ..
  have h9 : s8.stage (fun s => s.marks.freed || s.marks.feed) State.feed = s9 := State.stage_either ..
  have e : s.settle = (((((((((s2.stage (fun s => s.marks.freed || s.marks.serve) State.serveReturns).stage
    (fun s => s.marks.freed || s.marks.puts) State.servePuts).stage (·.marks.watch) State.watchTrucks).stage (·.marks.lanes)
    State.admission).stage (·.marks.gate) State.judgeGate).stage (fun s => s.marks.freed || s.marks.engine) State.judgeEngine).stage
    (fun s => s.marks.freed || s.marks.feed) State.feed).stage (·.marks.take) State.judgeStocktake)).clearMarks := rfl
  rw [e, h3, h4]
  show ((((s7.stage (fun s => s.marks.freed || s.marks.engine) State.judgeEngine).stage
    (fun s => s.marks.freed || s.marks.feed) State.feed).stage (·.marks.take) State.judgeStocktake)).clearMarks = _
  rw [h8, h9]
  rfl

/-- The engine takes the head of the Plan Queue (R98, R99). -/
theorem State.judgeEngine_takes {slot : Nat} {rest : List Nat} (hp : s.plan = none) (hq : s.planQueue = slot :: rest)
    (hc : s.cond = .ready) (hf : s.tasks.length + 96 ≤ 512) :
    s.judgeEngine = { s with plan := some ⟨slot, some 1, [], [], false, false⟩, planQueue := rest } := by
  have e : Config.planReserve ≤ s.freeEntries := by simp only [State.freeEntries, Config.planReserve, Config.poolSize]; omega
  simp only [State.judgeEngine, hp, hq, hc, e, and_self, if_true]

/-- With a plan in flight, an empty Plan Queue, the yard not READY or too few free entries the engine stays as it is (R98). -/
theorem State.judgeEngine_idle (h : s.plan ≠ none ∨ s.planQueue = [] ∨ s.cond ≠ .ready ∨ 512 < s.tasks.length + 96) :
    s.judgeEngine = s := by
  unfold State.judgeEngine
  split
  · rename_i hp hq
    rw [if_neg]
    rintro ⟨hc, hf⟩
    simp only [State.freeEntries, Config.planReserve, Config.poolSize] at hf
    rcases h with h | h | h | h
    · exact h hp
    · simp [h] at hq
    · exact h hc
    · omega
  · rfl

-- Cancellations, unloadings, the stocktake.

theorem takeOut_none {a : Nat} {l : List Nat} (h : a ∉ l) : takeOut a l = l := by
  simp only [takeOut, List.filter_eq_self]
  intro b hb
  simp
  rintro rfl
  exact h hb

/-- Leaving the Waiting Queue owes GATE_HOLD a judgement where the slot stood in it (R79, R82). -/
theorem State.leaveWaiting_eq (slot : Nat) :
    s.leaveWaiting slot =
      { s with waiting := takeOut slot s.waiting, marks := { s.marks with gate := s.marks.gate || s.waiting.contains slot } } := by
  unfold State.leaveWaiting State.markGate
  split
  · rename_i h
    simp only [h, Bool.or_true]
  · rename_i h
    have h' : s.waiting.contains slot = false := by simpa using h
    rw [takeOut_none (by simpa using h), h', Bool.or_false]

theorem State.hasTask_iff (kind : TaskKind) (slot : Nat) :
    s.hasTask kind slot = true ↔ ∃ k ∈ s.tasks, k.kind = kind ∧ k.truck = some slot := by
  simp [State.hasTask]

theorem State.hasTask_false (kind : TaskKind) (slot : Nat) :
    s.hasTask kind slot = false ↔ ¬ ∃ k ∈ s.tasks, k.kind = kind ∧ k.truck = some slot := by
  rw [← State.hasTask_iff]; simp

theorem State.returnsOf_isEmpty (slot : Nat) : (s.returnsOf slot).isEmpty = true ↔ ¬ ∃ e ∈ s.returns, e.slot = slot := by
  simp [State.returnsOf, List.filter_eq_nil_iff]

/-- The listing of a CANCELLING truck's packs (R92). -/
theorem State.listCancelled_eq {slot : Nat} {r : Truck} (h : s.truck? slot = some r) :
    s.listCancelled slot =
      if r.state = .cancelling ∧ ¬ (∃ k ∈ s.tasks, k.kind = .fetch ∧ k.truck = some slot) then
        let more := r.load.reverse.filter (fun j =>
          !(s.returns.any (fun e => e.slot == slot && e.pack == j)) && !(s.tasks.any (fun k => k.kind == .ret && k.pack == some j)))
        { s with
          returns := s.returns ++ more.map (fun j => ⟨slot, j⟩), marks := { s.marks with serve := s.marks.serve || !more.isEmpty } }
      else s := by
  have e : ∀ j, (s.returnsOf slot).contains j = s.returns.any (fun e => e.slot == slot && e.pack == j) := by
    intro j
    rw [Bool.eq_iff_iff]
    simp only [State.returnsOf, List.contains_iff_mem, List.mem_map, List.mem_filter, List.any_eq_true, Bool.and_eq_true, beq_iff_eq]
    constructor
    · rintro ⟨a, ⟨h1, h2⟩, h3⟩; exact ⟨a, h1, h2, h3⟩
    · rintro ⟨a, h1, h2, h3⟩; exact ⟨a, ⟨h1, h2⟩, h3⟩
  simp only [State.listCancelled, h, e, State.returning, State.hasTask_false]
  split
  · rename_i hc
    simp only [State.listReturns, State.markServe]
    split <;> rename_i hm
    · simp only [List.isEmpty_iff] at hm
      simp [hm]
    · simp only [Bool.not_eq_true] at hm
      simp only [hm, Bool.not_false, Bool.or_true]
  · rfl

/-- The end of an unloading (R157). -/
theorem State.endUnloading_eq {slot : Nat} {r : Truck} (h : s.truck? slot = some r) :
    s.endUnloading slot =
      if r.state = .unloading ∧ ¬ (∃ e ∈ s.returns, e.slot = slot) ∧ ¬ (∃ k ∈ s.tasks, k.kind = .ret ∧ k.truck = some slot) then
        { s with
          trucks := Tab.put s.trucks slot { r with state := .loaded }
          planQueue := s.planQueue.filter (fun j => !(j == slot)), flags := s.flags ||| 0x0002#16 }
      else s := by
  simp only [State.endUnloading, h, State.returnsOf_isEmpty, State.hasTask_false]
  split
  · rename_i hc
    simp only [State.enterState, hc.1]
    rfl
  · rfl

/-- The freeing of a slot whose plan is not in flight (R93). -/
theorem State.freeSlot_eq {slot : Nat} {r : Truck} (h : s.truck? slot = some r) (hp : s.planInFlight slot = false) :
    s.freeSlot slot = { s with
      waiting := takeOut slot s.waiting
      planQueue := takeOut slot s.planQueue
      returns := s.returns.filter (fun e => !(e.slot == slot))
      tasks := s.tasks.map (fun k => if k.truck = some slot then { k with truck := none } else k)
      trucks := Tab.erase s.trucks slot
      marks := { s.marks with gate := s.marks.gate || s.waiting.contains slot, lanes := s.marks.lanes || r.lane.isSome } } := by
  have e : State.planInFlight { s.leaveWaiting slot with
      planQueue := takeOut slot (s.leaveWaiting slot).planQueue
      returns := (s.leaveWaiting slot).returns.filter (fun r => !(r.slot == slot)) } slot = false := by
    rw [State.planInFlight_congr (s := s) (by simp)]
    exact hp
  simp only [State.freeSlot, e, h, Option.bind_some]
  simp only [State.leaveWaiting_eq, State.markAdmit]
  cases r.lane <;> simp

/-- The end of a cancellation (R93). -/
theorem State.completeCancel_eq {slot : Nat} {r : Truck} (h : s.truck? slot = some r) :
    s.completeCancel slot =
      if r.state = .cancelling ∧ s.planInFlight slot = false ∧ ¬ (∃ k ∈ s.tasks, k.kind = .fetch ∧ k.truck = some slot) ∧
          ¬ (∃ k ∈ s.tasks, k.kind = .ret ∧ k.truck = some slot) ∧ ¬ (∃ e ∈ s.returns, e.slot = slot) ∧ r.load = [] then
        s.freeSlot slot
      else s := by
  simp only [State.completeCancel, h, State.returnsOf_isEmpty, State.hasTask_false]
  have : (r.load.isEmpty = true) = (r.load = []) := by simp
  simp only [this]

/-- The end of a stocktake (R40). -/
theorem State.judgeStocktake_eq :
    s.judgeStocktake =
      if s.stocktake.active = true ∧
          ¬ ((∃ e ∈ s.backlog, e.2 = .stocktake) ∨ ∃ k ∈ s.tasks, k.kind = .survey ∧ k.reason = some .stocktake) then
        { s with stocktake := { s.stocktake with active := false }, flags := s.flags ||| 0x2000#16 }
      else s := by
  simp only [State.judgeStocktake]
  have e : ((s.backlog.all (fun e => !(e.2 == .stocktake)) = true ∧
      s.tasks.all (fun t => !(t.kind == .survey && t.reason == some .stocktake)) = true)) =
      ¬ ((∃ e ∈ s.backlog, e.2 = .stocktake) ∨ ∃ k ∈ s.tasks, k.kind = .survey ∧ k.reason = some .stocktake) := by
    apply propext
    simp only [List.all_eq_true, Bool.not_eq_true', beq_eq_false_iff_ne, Bool.and_eq_false_iff, not_or, not_exists, not_and]
    constructor
    · rintro ⟨h1, h2⟩
      exact ⟨fun e he => h1 e he, fun k hk h3 h4 => by rcases h2 k hk with h | h <;> contradiction⟩
    · rintro ⟨h1, h2⟩
      exact ⟨fun e he => h1 e he, fun k hk => by by_cases h3 : k.kind = .survey <;> simp_all⟩
  simp only [e]
  rfl

-- Admission.

/-- A slot joins the Plan Queue (R97). -/
theorem State.enqueuePlan_record (slot : Nat) :
    s.enqueuePlan slot = { s with
      planQueue := if slot ∈ s.planQueue ∨ s.planInFlight slot = true then s.planQueue else s.planQueue ++ [slot]
      marks := { s.marks with engine := s.marks.engine || !(s.planQueue.contains slot || s.planInFlight slot) } } := by
  unfold State.enqueuePlan State.markEngine
  split
  · rename_i h
    rw [if_pos (by simpa using h), h]
    simp
  · rename_i h
    rw [if_neg (by simpa using h)]
    simp only [Bool.not_eq_true] at h
    rw [h]
    simp

/-- The admission of the Waiting Queue's head (R85). -/
theorem State.admitOne_eq {slot lane : Nat} {rest : List Nat} {t : Truck} (hw : s.waiting = slot :: rest) (ht : s.truck? slot = some t)
    (hl : s.freeLane = some lane) (hc : s.cond = .ready) :
    s.admitOne = { s with
      waiting := takeOut slot s.waiting
      trucks := Tab.put s.trucks slot { t with lane := some lane, state := .admitted }
      planQueue := if slot ∈ s.planQueue ∨ s.planInFlight slot = true then s.planQueue else s.planQueue ++ [slot]
      flags := s.flags ||| 0x0001#16
      marks := { s.marks with
        gate := true, engine := s.marks.engine || !(s.planQueue.contains slot || s.planInFlight slot) } } := by
  have hm := Tab.modify_listed (fun t : Truck => { t with lane := some lane, state := .admitted }) ht
  have hg : s.waiting.contains slot = true := by simp [hw]
  have h1 : s.admitOne =
      (((s.leaveWaiting slot).updateTruck slot (fun t => { t with lane := some lane, state := .admitted })).enqueuePlan slot).raise
        .truckCalled := by
    unfold State.admitOne
    rw [hl]
    split
    · rename_i h1 h2
      rw [hw] at h1
      cases h1
      cases h2
      rw [if_pos hc]
    · rename_i h
      exact absurd rfl (h slot rest lane hw)
  rw [h1, State.enqueuePlan_record, State.leaveWaiting_eq, hg]
  simp only [State.updateTruck, State.raise, hm, Bool.or_true]
  rfl

theorem State.admitOne_idle (h : s.waiting = [] ∨ s.cond ≠ .ready ∨ s.freeLane = none) : s.admitOne = s := by
  unfold State.admitOne
  split
  · rename_i h1 h2
    rw [if_neg]
    rintro hc
    rcases h with h | h | h <;> simp_all
  · rfl

/-- Without a truck that waits, a lane that is free, or a READY yard, admission does nothing (R85). -/
theorem State.admission_idle (h : s.waiting = [] ∨ s.cond ≠ .ready ∨ s.freeLane = none) : s.admission = s := by
  have e := s.admitOne_idle h
  have : ∀ n, Nat.repeat State.admitOne n s = s := by
    intro n
    induction n with
    | zero => rfl
    | succ n ih => rw [Nat.repeat, ih, e]
  exact this _

theorem State.laneHolder_none {lane : Nat} (hw : Tab.wf 24 s.trucks = true) :
    s.laneHolder lane = none ↔ ∀ slot t, s.truck? slot = some t → t.lane ≠ some lane := by
  simp only [State.laneHolder, Option.map_eq_none_iff, List.find?_eq_none, beq_iff_eq]
  constructor
  · intro h slot t ht hl
    exact h _ (Tab.mem_of_get? ht) hl
  · intro h e he hl
    exact h e.1 e.2 (Tab.get?_of_mem hw he) hl

/-- The lane that admission gives (R84, R85). -/
theorem State.freeLane_some {lane : Nat} (hw : Tab.wf 24 s.trucks = true) :
    s.freeLane = some lane ↔ lane < s.lanesInUse ∧ (∀ slot t, s.truck? slot = some t → t.lane ≠ some lane) ∧
      ∀ l, l < lane → ∃ slot t, s.truck? slot = some t ∧ t.lane = some l := by
  have hn : ∀ l, (s.laneHolder l).isNone = true ↔ ∀ slot t, s.truck? slot = some t → t.lane ≠ some l := by
    intro l; rw [Option.isNone_iff_eq_none, s.laneHolder_none hw]
  unfold State.freeLane
  rw [List.find?_range_eq_some]
  simp only [hn, Bool.not_eq_true', Bool.eq_false_iff, ne_eq, not_forall]
  simp only [Classical.not_not]
  constructor
  · rintro ⟨h1, h2, h3⟩
    refine ⟨by simpa using h2, h1, fun l hl => ?_⟩
    obtain ⟨a, b, c, d⟩ := h3 l hl
    exact ⟨a, b, c, d⟩
  · rintro ⟨h1, h2, h3⟩
    refine ⟨h2, by simpa using h1, fun l hl => ?_⟩
    obtain ⟨a, b, c, d⟩ := h3 l hl
    exact ⟨a, b, c, d⟩

-- The creators and the feeder.

/-- When a creator other than the engine may take an entry (R100). -/
theorem State.mayCreate_iff :
    s.mayCreate = true ↔ if s.plan = none then s.tasks.length < 512 else s.tasks.length + 97 ≤ 512 := by
  have h1 : (1 ≤ s.freeEntries) = (s.tasks.length < 512) := by
    simp only [State.freeEntries, Config.poolSize, eq_iff_iff]; omega
  have h2 : (Config.creatorFloor ≤ s.freeEntries) = (s.tasks.length + 97 ≤ 512) := by
    simp only [State.freeEntries, Config.poolSize, Config.creatorFloor, eq_iff_iff]; omega
  unfold State.mayCreate
  simp only [h1, h2]
  cases s.plan <;> simp

/-- A creation that asks the Selector (R62, R70). -/
theorem State.addSeeking_eq (kind : TaskKind) (pack : Nat) (source : Source) (truck : Option Nat) (zone : Nat) :
    s.addSeeking kind pack source truck zone =
      match s.select ⟨kind, pack, source, false⟩ with
      | some d => s.addTask kind (some pack) source (.stack d) truck zone none
      | none => { s.addTask kind (some pack) source .unresolved truck zone none with flags := s.flags ||| 0x0800#16 } := by
  unfold State.addSeeking
  cases s.select ⟨kind, pack, source, false⟩ <;> rfl

theorem State.serveReturn_refused {r : ReturnEntry} (h : s.mayCreate = false) : s.serveReturn r = s := by
  unfold State.serveReturn
  split
  · rfl
  · simp [h]

/-- A listed return gets its RETURN (R92). -/
theorem State.serveReturn_given {r : ReturnEntry} {t : Truck} {lane : Nat} (h : s.mayCreate = true) (ht : s.truck? r.slot = some t)
    (hl : t.lane = some lane) :
    s.serveReturn r = State.addSeeking { s with returns := s.returns.filter (fun e => !(e == r)) } .ret r.pack (.lane lane)
      (some r.slot) (s.laneZone lane) := by
  simp [State.serveReturn, h, ht, hl]

theorem State.servePut_refused {j : Nat} (h : s.mayCreate = false ∨ s.taskOf j ≠ none) : s.servePut j = s := by
  unfold State.servePut
  rw [if_neg]
  rcases h with h | h <;> simp [h, Option.isNone_iff_eq_none]

/-- A deck pack gets its PUT (R62). -/
theorem State.servePut_given {j : Nat} (h : s.mayCreate = true) (ht : s.taskOf j = none) :
    s.servePut j = s.addSeeking .put j .deck none s.deckZone := by simp [State.servePut, h, ht]

theorem State.surveyOf_none (st : Nat) :
    s.surveyOf st = none ↔ ¬ ∃ k ∈ s.tasks, k.kind = .survey ∧ k.source = .stack st := by
  simp [State.surveyOf]

theorem Tab.risesFrom_head {α : Type} {n a k : Nat} {v : α} {t : List (Nat × α)} (h : Tab.risesFrom n ((k, v) :: t) a = true) :
    a ≤ k ∧ Tab.risesFrom n t (k + 1) = true := by
  simp [Tab.risesFrom] at h
  exact ⟨h.1.1, h.2⟩

theorem Tab.risesFrom_le {α : Type} {n a k : Nat} {v : α} {t : List (Nat × α)} (h : Tab.risesFrom n t a = true) (hm : (k, v) ∈ t) :
    a ≤ k := by
  induction t generalizing a with
  | nil => cases hm
  | cons e t ih =>
    obtain ⟨j, w⟩ := e
    obtain ⟨h1, h2⟩ := Tab.risesFrom_head h
    rcases List.mem_cons.1 hm with he | he
    · cases he; exact h1
    · have := ih h2 he; omega

/-- The feeder's next entry (R30). -/
theorem State.nextEntry_eq {st : Nat} {r : Reason} (hw : Tab.wf 512 s.backlog = true) (hg : Tab.get? s.backlog st = some r)
    (hs : s.surveyOf st = none)
    (h : ∀ e ∈ s.backlog, s.surveyOf e.1 = none → (e.2 = r → st ≤ e.1) ∧ (e.2 = .suspect → r = .suspect)) :
    s.nextEntry = some (st, r) := by
  have hmem := Tab.mem_of_get? hg
  have key : ∀ (l : List (Nat × Reason)) (a : Nat), Tab.risesFrom 512 l a = true → (st, r) ∈ l →
      (∀ e ∈ l, s.surveyOf e.1 = none → (e.2 = r → st ≤ e.1) ∧ (e.2 = .suspect → r = .suspect)) →
      (r = .suspect → (l.filter (fun e => (s.surveyOf e.1).isNone)).find? (fun e => e.2 == .suspect) = some (st, r)) ∧
      (r = .stocktake → (l.filter (fun e => (s.surveyOf e.1).isNone)).find? (fun e => e.2 == .suspect) = none ∧
        (l.filter (fun e => (s.surveyOf e.1).isNone)).head? = some (st, r)) := by
    intro l
    induction l with
    | nil => intro a _ hm; cases hm
    | cons e l ih =>
      obtain ⟨k, v⟩ := e
      intro a hr hm hall
      obtain ⟨-, hr'⟩ := Tab.risesFrom_head hr
      by_cases hk : s.surveyOf k = none
      · have hh := hall (k, v) (by simp) hk
        rcases List.mem_cons.1 hm with he | he
        · cases he
          refine ⟨by rintro rfl; simp [hk], ?_⟩
          rintro rfl
          refine ⟨?_, by simp [hk]⟩
          simp only [List.find?_eq_none, List.mem_filter, beq_iff_eq, and_imp]
          intro x hx hs' hsus
          have := (hall x hx (by simpa using hs')).2 hsus
          cases this
        · have hlt : k < st := Tab.risesFrom_le hr' he
          have hne : v ≠ r := fun e => absurd (hh.1 e) (by omega)
          have hv : v ≠ .suspect := fun e => hne (e.trans (hh.2 e).symm)
          have hi := ih (k + 1) hr' he (fun e h => hall e (List.mem_cons_of_mem _ h))
          have : r = .suspect := by cases v <;> cases r <;> simp_all
          refine ⟨fun hr => ?_, by rw [this]; rintro ⟨⟩⟩
          rw [← hi.1 hr]
          simp [hk, hv]
      · have hi : (st, r) ∈ l := by
          rcases List.mem_cons.1 hm with he | he
          · cases he; exact absurd hs hk
          · exact he
        have := ih (k + 1) hr' hi (fun e h => hall e (List.mem_cons_of_mem _ h))
        have hk' : (s.surveyOf k).isNone = false := by
          rw [← Bool.not_eq_true, Option.isNone_iff_eq_none]; exact hk
        simpa only [List.filter_cons, hk', Bool.false_eq_true, if_false] using this
  have := key s.backlog 0 hw hmem h
  cases r
  · simp only [State.nextEntry, this.1 rfl]
  · simp only [State.nextEntry, (this.2 rfl).1, (this.2 rfl).2]

/-- The feeder gives one SURVEY (R30). -/
theorem State.feedOne_given {st : Nat} {r : Reason} (hc : s.cond = .ready) (hn : s.tasks.countP (fun k => k.kind == .survey) < 16)
    (hf : s.tasks.length + 97 ≤ 512) (he : s.nextEntry = some (st, r)) :
    s.feedOne = State.addTask { s with backlog := Tab.erase s.backlog st, marks := { s.marks with take := true } } .survey none
        (.stack st) .absent none (s.setting .bayZone (st / 8)) (some r) := by
  have h : s.cond = .ready ∧ s.surveys < Config.surveyLimit ∧ Config.creatorFloor ≤ s.freeEntries := by
    refine ⟨hc, hn, ?_⟩
    simp [State.freeEntries, Config.poolSize, Config.creatorFloor]; omega
  unfold State.feedOne
  rw [if_pos h, he]
  rfl

theorem State.feedOne_idle (h : ¬(s.cond = .ready ∧ s.tasks.countP (fun k => k.kind == .survey) < 16 ∧ s.tasks.length + 97 ≤ 512)) :
    s.feedOne = s := by
  unfold State.feedOne
  rw [if_neg]
  rintro ⟨h1, h2, h3⟩
  refine h ⟨h1, h2, ?_⟩
  simp [State.freeEntries, Config.poolSize, Config.creatorFloor] at h3; omega

/-- A creation of the feeder raises the number of SURVEYs by one. -/
theorem State.feedOne_counts : s.feedOne = s ∨ s.feedOne.surveys = s.surveys + 1 := by
  unfold State.feedOne
  split
  · split
    · exact .inl rfl
    · right
      simp [State.surveys, State.addTask, State.leaveBacklog, State.markTake]
  · exact .inl rfl

/-- The feeder stops only when it can give no more (R30). -/
theorem State.feed_done : s.feed.feedOne = s.feed := by
  have key : ∀ n, (Nat.repeat State.feedOne n s).feedOne = Nat.repeat State.feedOne n s ∨ n ≤ (Nat.repeat State.feedOne n s).surveys := by
    intro n
    induction n with
    | zero => exact .inr (Nat.zero_le _)
    | succ n ih =>
      rcases ih with h | h
      · left
        simp only [Nat.repeat]
        rw [h, h]
      · rcases (Nat.repeat State.feedOne n s).feedOne_counts with g | g
        · left
          simp only [Nat.repeat]
          rw [g, g]
        · right
          simp only [Nat.repeat]
          omega
  rcases key 16 with h | h
  · exact h
  · apply State.feedOne_idle
    rintro ⟨-, h2, -⟩
    exact absurd h2 (Nat.not_lt.2 h)

-- Re-resolution and the issue rule.

/-- The re-resolution of a stack's pending arrivals (R38). -/
theorem State.reResolve_eq (st : Nat) :
    let bound := (s.tasks.filter (fun k => k.dest == .stack st)).map (·.id)
    s.reResolve st = bound.foldl State.resolveAnew { s with
        tasks := s.tasks.map (fun k => if k.dest = .stack st then { k with dest := .unresolved } else k)
        touches := s.touches.filter (fun u => !(u.place == .stack st && bound.contains u.task))
        marks := { s.marks with space := s.marks.space || !bound.isEmpty } } := by
  intro bound
  show (s.boundFor st).foldl State.resolveAnew (s.clearBound st) = _
  have : s.boundFor st = bound := rfl
  rw [this]
  congr 1
  unfold State.clearBound State.markSpace
  rw [this]
  cases h : bound.isEmpty <;> simp

/-- First in the order of a place (R126, R127). -/
theorem State.standsFirst_iff (p : Place) (id : Nat) :
    s.standsFirst p id = true ↔ (s.touches.find? (fun u => u.place == p)).map (·.task) = some id := by
  unfold State.standsFirst State.orderOf
  rw [beq_iff_eq, List.head?_map, List.head?_filter]

/-- The issue rule (R127). -/
theorem State.issuable_iff (k : Task) :
    s.issuable k = true ↔ k.state = .queued ∧ k.dest ≠ .unresolved ∧ (∀ p ∈ k.source.places, s.standsFirst p k.id = true) ∧
      (∀ st, k.dest = .stack st → s.standsFirst (.stack st) k.id = true) ∧ (k.kind = .put → s.deck.head? = k.pack) := by
  have hd : s.firstAtDest k = true ↔ ∀ st, k.dest = .stack st → s.standsFirst (.stack st) k.id = true := by
    unfold State.firstAtDest
    cases k.dest <;> simp
  have hs : s.firstAtSource k = true ↔ ∀ p ∈ k.source.places, s.standsFirst p k.id = true := by
    simp [State.firstAtSource]
  have hk : (!(k.kind == .put) || s.deck.head? == k.pack) = true ↔ (k.kind = .put → s.deck.head? = k.pack) := by
    simp [imp_iff_not_or]
  unfold State.issuable
  simp only [Bool.and_eq_true, hd, hs, hk, and_assoc, beq_iff_eq, Bool.not_eq_true', beq_eq_false_iff_ne, ne_eq]

/-- A displaced task (R127). -/
theorem State.displaced_iff (k : Task) :
    s.displaced k = true ↔ (k.kind = .dig ∨ k.kind = .fetch) ∧ k.state = .queued ∧
      ∃ st, k.source = .stack st ∧ s.standsFirst (.stack st) k.id = true ∧ (s.stack st).list.getLast? ≠ k.pack := by
  unfold State.displaced
  cases hs : k.source <;> simp [Source.stackId, and_assoc]

-- Reservations, replan requests, new stock.

/-- The end of a reservation (R10). -/
theorem State.release_eq {p : Nat} {q : Pack} {r : Reservation} {t : Truck} (hp : s.pack? p = some q) (hr : q.reservation = some r)
    (ht : s.truck? r.slot = some t) :
    s.release p = { s with
      packs := Tab.put s.packs p { q with reservation := none, state := if q.state = .reserved then .stored else q.state }
      trucks := Tab.put s.trucks r.slot (t.lower r)
      plan := s.plan.map (fun f => f.drop p)
      marks := { s.marks with space := s.marks.space || q.state == .reserved } } := by
  have hm := Tab.modify_listed (fun t : Truck => t.lower r) ht
  unfold State.release State.endReservation
  rw [hp]
  simp only [hr]
  have hd : ∀ v : State, v.dropPick p = { v with plan := v.plan.map (fun f => f.drop p) } := by
    intro v
    unfold State.dropPick
    cases hv : v.plan <;> simp
    cases v; simp_all
  rw [hd]
  by_cases hs : q.state = .reserved
  · simp only [hs, if_true, State.setPack, State.updateTruck, hm, State.markSpace, beq_self_eq_true, Bool.or_true]
  · have : (q.state == PackState.reserved) = false := by simpa using hs
    simp only [hs, if_false, State.setPack, State.updateTruck, hm, this, Bool.or_false]

/-- What a replan request does, by the truck's standing (R116). -/
theorem State.requestReplan_eq {slot : Nat} {t : Truck} (h : s.truck? slot = some t) :
    s.requestReplan slot =
      if t.state.plannable = true then
        if s.planInFlight slot = true then { s with plan := s.plan.map (fun f => { f with replanAfter := true }) }
        else if t.state = .admitted ∨ slot ∈ s.planQueue then s
        else { s with planQueue := s.planQueue ++ [slot], marks := { s.marks with engine := true } }
      else s := by
  have hn : s.noteReplan = { s with plan := s.plan.map (fun f => { f with replanAfter := true }) } := by
    unfold State.noteReplan
    cases hp : s.plan <;> simp
    cases s; simp_all
  simp only [State.requestReplan, h, hn]
  split
  · split
    · rfl
    · rename_i hf
      have hf' : s.planInFlight slot = false := by simpa using hf
      simp only [State.enqueuePlan, State.markEngine, hf', Bool.or_false, List.contains_iff_mem]
      by_cases ha : t.state = .admitted <;> simp [ha]
  · rfl

theorem insertBy_perm {α : Type} (key : α → Nat) (a : α) (l : List α) : (insertBy key a l).Perm (a :: l) := by
  induction l with
  | nil => exact .refl _
  | cons b t ih =>
    unfold insertBy
    split
    · exact .refl _
    · exact (ih.cons b).trans (.swap a b t)

theorem sortBy_perm {α : Type} (key : α → Nat) (l : List α) : (sortBy key l).Perm l := by
  induction l with
  | nil => exact .refl _
  | cons a t ih => exact (insertBy_perm key a _).trans (ih.cons a)

/-- Sorting orders by the key, and elements of equal key as the list had them. -/
theorem sortBy_pairwise {α : Type} (key : α → Nat) (R : α → α → Prop) {l : List α} (h : l.Pairwise R) :
    (sortBy key l).Pairwise (fun a b => key a < key b ∨ (key a = key b ∧ R a b)) := by
  have hi : ∀ (a : α) (l : List α), (∀ b ∈ l, R a b) → l.Pairwise (fun a b => key a < key b ∨ (key a = key b ∧ R a b)) →
      (insertBy key a l).Pairwise (fun a b => key a < key b ∨ (key a = key b ∧ R a b)) := by
    intro a l
    induction l with
    | nil => intros; simp [insertBy]
    | cons b t ih =>
      intro ha hl
      obtain ⟨h1, h2⟩ := List.pairwise_cons.1 hl
      unfold insertBy
      split
      · refine List.pairwise_cons.2 ⟨fun x hx => ?_, hl⟩
        have hR := ha x hx
        have hle : key b ≤ key x := by
          rcases List.mem_cons.1 hx with rfl | hx'
          · exact le_rfl
          · rcases h1 x hx' with g | g <;> omega
        by_cases e : key a = key x
        · exact .inr ⟨e, hR⟩
        · exact .inl (by omega)
      · refine List.pairwise_cons.2 ⟨fun x hx => ?_, ih (fun x hx => ha x (by simp [hx])) h2⟩
        rcases List.mem_cons.1 ((insertBy_perm key a t).mem_iff.1 hx) with rfl | hx'
        · exact .inl (by omega)
        · exact h1 x hx'
  induction l with
  | nil => simp [sortBy]
  | cons a t ih =>
    obtain ⟨h1, h2⟩ := List.pairwise_cons.1 h
    exact hi a _ (fun b hb => h1 b ((sortBy_perm key t).mem_iff.1 hb)) (ih h2)

/-- A canonical table lists its entries in ascending order of key. -/
theorem Tab.risesFrom_pairwise {α : Type} {n a : Nat} {t : List (Nat × α)} (h : Tab.risesFrom n t a = true) :
    t.Pairwise (fun e f => e.1 < f.1) ∧ ∀ e ∈ t, a ≤ e.1 := by
  induction t generalizing a with
  | nil => simp
  | cons e t ih =>
    obtain ⟨k, v⟩ := e
    simp only [Tab.risesFrom, Bool.and_eq_true, decide_eq_true_eq] at h
    obtain ⟨⟨h1, -⟩, h2⟩ := h
    obtain ⟨g1, g2⟩ := ih h2
    refine ⟨List.pairwise_cons.2 ⟨fun f hf => ?_, g1⟩, fun f hf => ?_⟩
    · have := g2 f hf; simp only; omega
    · rcases List.mem_cons.1 hf with rfl | hf'
      · exact h1
      · have := g2 f hf'; omega

/-- New stock makes its replan requests in ascending order of arrival sequence and slot (R118). -/
theorem State.newStock_order {p : Nat} {q : Pack} (hp : s.pack? p = some q) (hw : Tab.wf 24 s.trucks = true) :
    ∃ order : List Nat, s.newStock p = order.foldl State.requestReplan s ∧
      (∀ slot, slot ∈ order ↔ ∃ u, s.truck? slot = some u ∧ u.wants q.attrs = true) ∧
      order.Pairwise (fun a b => ∀ u v, s.truck? a = some u → s.truck? b = some v →
        u.arrivalSeq < v.arrivalSeq ∨ (u.arrivalSeq = v.arrivalSeq ∧ a < b)) := by
  refine ⟨(sortBy (fun e : Nat × Truck => e.2.arrivalSeq) (s.trucks.filter (fun e => e.2.wants q.attrs))).map (·.1), ?_, fun slot => ?_, ?_⟩
  · simp only [State.newStock, hp]
  · simp only [List.mem_map, (sortBy_perm _ _).mem_iff, List.mem_filter]
    constructor
    · rintro ⟨e, ⟨h1, h2⟩, rfl⟩
      exact ⟨e.2, Tab.get?_of_mem hw h1, h2⟩
    · rintro ⟨u, h1, h2⟩
      exact ⟨(slot, u), ⟨Tab.mem_of_get? h1, h2⟩, rfl⟩
  · rw [List.pairwise_map]
    have hs := sortBy_pairwise (fun e : Nat × Truck => e.2.arrivalSeq) (fun e f => e.1 < f.1)
      ((Tab.risesFrom_pairwise hw).1.filter (fun e => e.2.wants q.attrs))
    refine hs.imp_of_mem ?_
    intro e f he hf hlt u v hu hv
    have me := Tab.get?_of_mem hw (List.mem_filter.1 ((sortBy_perm _ _).mem_iff.1 he)).1
    have mf := Tab.get?_of_mem hw (List.mem_filter.1 ((sortBy_perm _ _).mem_iff.1 hf)).1
    simp only [State.truck?] at hu hv
    rw [me] at hu
    rw [mf] at hv
    cases hu
    cases hv
    exact hlt

-- The order of a plan's stacks (R110, R112).

theorem Plan.append_ordered {p : Plan} (h : p.Ordered) (e : Pick) : (p.append e).Ordered := by
  obtain ⟨h1, h2⟩ := h
  unfold Plan.append Plan.Ordered
  by_cases hc : e.stack ∈ p.stackOrder
  · simp only [List.contains_iff_mem, hc, if_true]
    refine ⟨h1, fun st => ?_⟩
    rw [h2]
    simp only [List.mem_append, List.mem_singleton]
    constructor
    · rintro ⟨f, hf, g⟩; exact ⟨f, .inl hf, g⟩
    · rintro ⟨f, hf | rfl, g⟩
      · exact ⟨f, hf, g⟩
      · rw [← g]; exact (h2 _).1 hc
  · simp only [List.contains_iff_mem, hc, if_false]
    refine ⟨?_, fun st => ?_⟩
    · rw [List.nodup_append]
      refine ⟨h1, by simp, ?_⟩
      rintro a ha b hb rfl
      exact hc ((List.mem_singleton.1 hb) ▸ ha)
    · simp only [List.mem_append, h2, List.mem_singleton]
      constructor
      · rintro (⟨f, hf, g⟩ | rfl)
        · exact ⟨f, .inl hf, g⟩
        · exact ⟨e, .inr rfl, rfl⟩
      · rintro ⟨f, hf | rfl, g⟩
        · exact .inl ⟨f, hf, g⟩
        · exact .inr g.symm

theorem Plan.drop_ordered {p : Plan} (h : p.Ordered) (pack : Nat) : (p.drop pack).Ordered := by
  obtain ⟨h1, h2⟩ := h
  unfold Plan.drop Plan.Ordered
  refine ⟨h1.filter _, fun st => ?_⟩
  simp only [List.mem_filter, h2, List.any_eq_true, Bool.and_eq_true, beq_iff_eq, Bool.not_eq_true', beq_eq_false_iff_ne]
  constructor
  · rintro ⟨-, f, hf, g, k⟩; exact ⟨f, ⟨hf, k⟩, g⟩
  · rintro ⟨f, ⟨hf, k⟩, g⟩; exact ⟨⟨f, hf, g⟩, f, hf, g, k⟩

-- Reception.

/-- The buffer that a good frame's own bytes fill makes the message of its code and body. -/
theorem frameCommand_good (p : Port) (code : Byte) (body : List Byte) (h : body.length ≤ 250) :
    frameCommand p (code :: BitVec.ofNat 8 body.length ::
      (body ++ be2 (crc (code :: BitVec.ofNat 8 body.length :: body)).toNat)) = some (messageCommand p code.toNat body) := by
  have hl : (BitVec.ofNat 8 body.length).toNat = body.length := by
    rw [BitVec.toNat_ofNat]; exact Nat.mod_eq_of_lt (by omega)
  have h2 : ∀ n, (be2 n).length = 2 := fun _ => rfl
  simp only [frameCommand, hl, List.length_append, h2, List.drop_left, List.take_left]
  rw [if_neg (by omega), if_neg (by simp), if_neg (by simp)]

end Sys2Proof.Machine
end

