-- ==== Sys2Proof/Tests/Slice0.lean ====
section
/-! SUPPORT. Tests: ill-formed commands refused, figures and worked sequences of the manual on single steps, and for each statement states
that meet its hypotheses, clause by clause. -/
namespace Sys2Proof.Tests
open Sys2Proof.Machine

-- Well-formedness: one ill-formed command for each check.

theorem test_wellformed_length : Instr.wf (.status .g 251) = false := by decide
theorem test_wellformed_four_bytes : Instr.wf (.gone .g 4 4294967296) = false := by decide
theorem test_wellformed_two_bytes : Instr.wf (.putBack (.l 0) 2 65536) = false := by decide
theorem test_wellformed_byte : Instr.wf (.restart .o 1 256) = false := by decide
theorem test_wellformed_attrs : Instr.wf (.packIn .t 14 ⟨1, ⟨16, 0, 0, 0, 0, 0, 0⟩, false, 1, 1, 0, 0⟩) = false := by decide
theorem test_wellformed_grade : Instr.wf (.packDefine .o 14 ⟨1, ⟨0, 8, 0, 0, 0, 0, 0⟩, false, 1, 1, 0, 0⟩) = false := by decide
theorem test_wellformed_line_count : Instr.wf (.arrive .g 22 ⟨1, 0, 2000, 5000, 1, 0, 1, []⟩) = false := by decide
theorem test_wellformed_tags : Instr.wf (.surveyReport (.l 0) 7 1 2 [1]) = false := by decide
theorem test_wellformed_scope : Instr.wf (.stocktake .o 1 (.zone 256)) = false := by decide
theorem test_wellformed_unknown : Instr.wf (.unknownMessage .g 0x10) = false ∧ Instr.wf (.unknownMessage .g 0x15) = true := by decide
theorem test_wellformed_slot : Instr.wf (.promotion 24) = false := by decide
theorem test_wellformed_task : Instr.wf (.taskTimerExpiry 0) = false ∧ Instr.wf (.taskTimerExpiry 65536) = false := by decide
theorem test_wellformed_admits : Instr.wf (.gone .g 4 0) = true := by decide

-- No row of the table gives bits.

theorem test_no_word_spells_a_command : decodeTableWord 8 1 = none ∧ State.reset.withFetchWord 8 1 = State.reset := by decide

-- Running one command.

/-- The state a command gives. -/
def ran (i : Instr) (s : State) : State :=
  match exec i s with
  | .next t => t
  | .fault _ | .refused _ => s

/-- The answer a command leaves in the buffer of a port. -/
def answer (p : Port) (i : Instr) (s : State) : Option Answer := ((ran i s).port p).tx.map (·.answer)

/-- A state with each of the port's answers sent. -/
def sent (p : Port) (s : State) : State := ran (.answerSent p false) s

/-- The reset yard with every flag no. -/
def yard : State := { State.reset with flags := 0 }

/-- A key of spruce of any kind. -/
def spruce : Key := ⟨some 2, 7, none, none, 0, 15, none, 3⟩

/-- A STORED pack of 1,000 kg by measure. -/
def stored (tag stack : Nat) : Pack :=
  ⟨tag, ⟨2, 1, 5, 8, 10, 1, 1⟩, 1, 1000, some 1000, 0, some 0, .stored, .stack stack, false, true, none, none, none⟩

/-- A pack reserved for a line of a slot, in some state at some place. -/
def bound (tag : Nat) (state : PackState) (loc : Loc) (slot line frozen : Nat) : Pack :=
  { stored tag 0 with state := state, loc := loc, reservation := some ⟨slot, some line, some .primary, frozen⟩ }

/-- A pack aboard a truck. -/
def aboard (tag slot line frozen visit seq : Nat) : Pack :=
  { bound tag .onTruck (.truck slot) slot line frozen with visit := some visit, loadSeq := some seq }

/-- A truck in a state at a lane, with one line of a want and a filled count. -/
def truck (visit : Nat) (state : TruckState) (lane : Option Nat) (want filled : Nat) (load : List Nat) (est : Nat) : Truck :=
  ⟨visit, false, false, 1, 0, 14380, 40000, 25220, 20, false, [⟨want, spruce, none, filled⟩], state, lane, load, load.length, est,
    ⟨false, false, false, false, false⟩, none⟩

/-- A task record. -/
def task (id : Nat) (kind : TaskKind) (pack : Option Nat) (source : Source) (dest : Dest) (slot : Option Nat) (loader : Nat)
    (state : TaskState) : Sys2Proof.Machine.Task :=
  ⟨id, kind, pack, source, dest, slot, false, 0, loader, state,
    if state = .issued ∨ state = .lifted then some ⟨0, 300⟩ else none, none, none, none⟩

/-- A LINKED loader with a current task or none. -/
def linked (current : Option Nat) : Loader := ⟨.inService, true, some 3, current, none⟩

-- Figures of the manual.

/-- Section 3.3: spruce of moisture class 2, 2,400 dm³ at density 520, wet level 2, at the dwell boundary. -/
theorem test_estimate_at_the_dwell :
    let q : Pack := { stored 1 0 with attrs := ⟨2, 1, 5, 8, 10, 1, 2⟩, volume := 2400, measured := none, storedAt := some 100000#32 }
    let s (m : Minute) : State := { yard.setWorking .density 10 520 with wet := 2, clock := ⟨m, false, 0⟩ }
    (s 100719#32).estimate? q = some 1248 ∧ (s 100720#32).estimate? q = some 1348 ∧ (s 99990#32).estimate? q = some 1248 := by decide

/-- Section 3.3: 1 dm³ at density 200 with an uplift of 30 gives 2, each step rounded; 20,000 kg at 25 is held to 24,960. -/
theorem test_estimate_rounds_twice_and_holds :
    let s (u : Nat) : State := { (yard.setWorking .density 9 200).setWorking .uplift 1 u with wet := 1, clock := ⟨720#32, false, 0⟩ }
    (s 30).estimate? { stored 1 0 with volume := 1, measured := none } = some 2 ∧
      (s 24).estimate? { stored 1 0 with measured := some 20000 } = some 24800 ∧
      (s 25).estimate? { stored 1 0 with measured := some 20000 } = some 24960 := by decide

/-- The request of section 3.4's budget figures. -/
def arrival (visit tare gross : Nat) : ArriveReq :=
  ⟨visit, 0, tare, gross, 10, 0, 1,
    [⟨1, 2, 0, false, false, ⟨true, true, true, true, false, false, false, false, 0, 0, 0, 0, 15, 0, 3⟩,
      ⟨false, false, false, false, false, false, false, false, 0, 0, 0, 0, 0, 0, 0⟩⟩]⟩

/-- Section 3.4: G 5,000 with T 4,600 is refused NO_PAYLOAD; with T 4,599 it is accepted with B 1, and admitted to lane 0 at once. -/
theorem test_arrive_budget :
    answer .g (.arrive .g 22 (arrival 7 4600 5000)) yard = some (.only .noPayload) ∧
      answer .g (.arrive .g 22 (arrival 7 4599 5000)) yard = some (.arrived ⟨0, .admitted, some 0, none, 1, 0, false⟩) := by
  decide +kernel

/-- Section 5.8's re-entry: B 1,800 raised to 2,596, N 1 to 2, REENTRY and BUDGET_RAISED. -/
theorem test_reentry :
    let s : State := { yard with packs := [
      (120, { stored 1120 0 with measured := some 1348, state := .orphaned, loc := .none, visit := some 20417, loadSeq := some 1 }),
      (121, { stored 1121 0 with measured := some 1248, state := .orphaned, loc := .none, visit := some 20417, loadSeq := some 3 })] }
    let t := ran (.arrive .g 22 { arrival 20417 15800 18000 with maxPacks := 1 }) s
    answer .g (.arrive .g 22 { arrival 20417 15800 18000 with maxPacks := 1 }) s =
        some (.arrived ⟨0, .admitted, some 0, none, 2596, 2, false⟩) ∧
      (t.truck? 0).map (fun k => (k.load, k.est, k.budget, k.maxPacks, k.flags)) =
        some ([120, 121], 2596, 2596, 2, ⟨false, false, false, true, true⟩) := by
  decide +kernel

/-- Section 9.2: the overweight truck returns its two top packs. -/
theorem test_weigh_overweight :
    let s : State := { yard with
      packs := [(617, aboard 1617 2 1 22702 51230 1), (618, aboard 1618 2 1 1348 51230 2), (619, aboard 1619 2 1 520 51230 3)]
      trucks := [(2, truck 51230 .loaded (some 0) 3 3 [617, 618, 619] 24570)] }
    answer .g (.weigh .g 8 51230 40730) s = some (.weighed ⟨true, 40730, 1780, 730, 2, .unloading⟩) ∧
      ((ran (.weigh .g 8 51230 40730) s).tasks.map (fun k => (k.kind, k.pack))) = [(.ret, some 619), (.ret, some 618)] := by
  decide +kernel

/-- Section 9.2, a tare in doubt: an overweight truck with nothing aboard is marked TARE_SUSPECT and stays LOADED. -/
theorem test_weigh_tare_in_doubt :
    let s : State := { yard with
      trucks := [(6, { truck 51244 .loaded (some 0) 1 0 [] 0 with tare := 10000, gross := 12000, budget := 1600 })] }
    answer .g (.weigh .g 8 51244 12160) s = some (.weighed ⟨true, 12160, 2160, 160, 0, .loaded⟩) ∧
      ((ran (.weigh .g 8 51244 12160) s).truck? 6).map (·.flags.tareSuspect) = some true := by
  decide +kernel

/-- Section 9.3: the GONE of a RELEASED truck removes its packs and frees its slot. -/
theorem test_gone_released :
    let s : State := { yard with
      packs := [(617, aboard 1617 2 1 22702 51230 1)], trucks := [(2, truck 51230 .released none 1 1 [617] 22702)] }
    answer .g (.gone .g 4 51230) s = some (.gone (some 2) 1 false) ∧ (ran (.gone .g 4 51230) s).packs = [] ∧
      (ran (.gone .g 4 51230) s).trucks = [] := by
  decide +kernel

/-- Section 5.7's cancellation: the QUEUED DIG and FETCH go, the LIFTED FETCH stays, L falls from 5,116 to 4,016. -/
theorem test_cancel :
    let s : State := { yard with
      packs := [(300, aboard 1300 7 1 1348 30561 1), (301, aboard 1301 7 1 1248 30561 2),
        (302, bound 1302 .onLoader (.loader 2) 7 1 1420), (303, bound 1303 .reserved (.stack 30) 7 1 1100), (310, stored 1310 30)]
      stackMap := [(30, ⟨[303, 310], false⟩)], trucks := [(7, truck 30561 .loading (some 1) 5 4 [300, 301] 5116)]
      tasks := [task 60 .fetch (some 302) (.stack 30) (.lane 1) (some 7) 2 .lifted,
        task 61 .dig (some 310) (.stack 30) (.stack 31) (some 7) 3 .queued,
        task 62 .fetch (some 303) (.stack 30) (.lane 1) (some 7) 3 .queued] }
    let t := ran (.cancel .g 4 30561) s
    answer .g (.cancel .g 4 30561) s = some (.cancelled 7 (some .cancelling) 2) ∧ t.tasks.map (·.id) = [60] ∧
      (t.truck? 7).map (·.est) = some 4016 ∧ (t.pack? 303).map (·.state) = some .stored := by
  decide +kernel

/-- Section 2.4's worked survey: two found, one moved, one lost, one created. -/
theorem test_survey :
    let s : State := { yard with
      packs := [(200, stored 510001 40), (201, stored 510002 40), (202, stored 510003 40), (210, stored 520001 41),
        (211, bound 520002 .reserved (.stack 41) 3 1 1100)]
      stackMap := [(40, ⟨[200, 201, 202], false⟩), (41, ⟨[210, 211], false⟩)]
      trucks := [(3, truck 30003 .loading (some 3) 2 1 [] 1100)]
      tasks := [{ task 88 .survey none (.stack 40) .absent none 5 .issued with reason := some .stocktake }]
      stocktake := ⟨true, some (.zone 5), 8, 1, 0, 0, 0, 0⟩
      loaders := [(5, linked (some 88))] }
    let i := Instr.surveyReport (.l 5) 19 88 4 [510001, 520002, 510003, 990001]
    answer (.l 5) i s = some (.surveyed ⟨2, 1, 1, 1⟩) ∧ ((ran i s).stack 40).list = [200, 211, 202, 0] := by
  decide +kernel

/-- Section 7's mismatch: the pack is LOST, its stack suspect, the answer MISMATCH. -/
theorem test_lift_mismatch :
    let s : State := { yard with
      packs := [(5, stored 15 16)], stackMap := [(16, ⟨[5], false⟩)]
      tasks := [task 122 .dig (some 5) (.stack 16) (.stack 17) none 2 .issued], loaders := [(2, linked (some 122))] }
    let i := Instr.lift (.l 2) 6 122 610177
    answer (.l 2) i s = some (.only .mismatch) ∧ ((ran i s).pack? 5).map (·.state) = some .lost ∧
      (ran i s).stack 16 = ⟨[], true⟩ ∧ (ran i s).flags = 0x0300#16 := by
  decide +kernel

/-- R134, R126: a FETCH converted at its lane leaves the lane's order, joins its new stack's, and keeps its place in its source stack's. -/
theorem test_conversion_leaves_the_lane :
    let s : State := { yard with
      packs := [(5, { stored 15 0 with state := .onLoader, loc := .loader 2 })]
      tasks := [task 9 .fetch (some 5) (.stack 16) (.lane 1) none 2 .lifted], touches := [⟨.stack 16, 9⟩, ⟨.lane 1, 9⟩]
      loaders := [(2, linked (some 9))] }
    let t := ran (.place (.l 2) 5 9 2 1) s
    t.touches.map (·.place) = [.stack 16, .stack 64] ∧ t.tasks.map (fun k => (k.kind, k.converted)) = [(.ret, true)] := by
  decide +kernel

/-- Section 4.1: the first PACK_IN of an empty yard takes index 0, deck position 0, and its PUT the id 1. -/
theorem test_pack_in :
    answer .t (.packIn .t 14 ⟨880112, ⟨2, 1, 5, 8, 10, 1, 1⟩, false, 100, 2000, 1, 1300⟩) yard = some (.packIn ⟨0, 0, 1, some 1⟩) := by
  decide +kernel

/-- Section 11.2's setting changed twice: the entry in writing is fixed, the later value waits behind it, and still waits after the end of
the first write. -/
theorem test_cfg_set_twice :
    let s : State := { yard with writeList := [⟨64 * 2 + 4, 6⟩], writing := true, working := [(64 * 2 + 4, 6)] }
    let t := ran (.cfgSetBay .o 4 2 4 4) s
    answer .o (.cfgSetBay .o 4 2 4 4) s = some (.cfgSet 2 4 4 true) ∧ t.writeList = [⟨132, 6⟩, ⟨132, 4⟩] ∧
      (ran .configWriteEnd t).stored = [(132, 6)] ∧ (ran .configWriteEnd t).writeList = [⟨132, 4⟩] ∧
      (ran .configWriteEnd t).writing = false := by
  decide +kernel

/-- Section 10.6: a flag routed to ATTN3 holds the line while another of its flags is yes. -/
theorem test_lines_follow_the_flags :
    let s : State := { yard with flags := 0x0300#16, working := [(64 * 22 + 8, 3), (64 * 22 + 9, 3)] }
    (ran (.eventAck .o 2 0x0100#16) s).pins.attn[3]? = some true ∧ (ran (.eventAck .o 2 0x0300#16) s).pins.attn[3]? = some false := by
  decide +kernel

/-- R186: CFG_GET's none is 00FFh for a kind of one byte and FFFFh for a kind of two. -/
theorem test_cfg_get_none :
    (Answer.cfgGet 13 16 16 none).rest = [0x00#8, 0x10#8, 0x00#8, 0x10#8, 0x00#8, 0xFF#8] ∧
      (Answer.cfgGet 19 300 300 none).rest = [0x01#8, 0x2C#8, 0x01#8, 0x2C#8, 0xFF#8, 0xFF#8] := by
  decide +kernel

/-- R110: of the picks A of stack 20, B of 21 and C of 20, A's withdrawal leaves stack 20 before 21, and C's then takes it out. -/
theorem test_stack_keeps_its_place :
    let p : Plan := ⟨0, some 1, [⟨6, 20, 1, .primary⟩, ⟨12, 21, 1, .primary⟩, ⟨4, 20, 1, .primary⟩], [20, 21], false, false⟩
    (p.drop 6).stackOrder = [20, 21] ∧ ((p.drop 6).drop 4).stackOrder = [21] := by decide

/-- PACK_QUERY's attributes, one byte each in the order of Table 1-1 (R20, R172). -/
theorem test_bytes_of_attributes :
    Attrs.bytes ⟨2, 1, 5, 8, 10, 3, 2⟩ = [2#8, 1#8, 5#8, 8#8, 10#8, 3#8, 2#8] := by decide

/-- R168, R169: STATUS byte by byte, its check 2E3Eh worked out by hand from the polynomial; then one wrong check bit. -/
theorem test_bytes_of_a_status :
    (match yard.bytesArrive .g [0x00#8, 0xA5#8, 0x01#8, 0x00#8] with
      | .next t => some (t.port .g).rx
      | .fault _ | .refused _ => none) = some [0x01#8, 0x00#8] ∧
    (match yard.bytesArrive .g [0xA5#8, 0x01#8, 0x00#8, 0x2E#8, 0x3E#8] with
      | .next t => some ((t.port .g).rx, (t.port .g).tx.map (·.code))
      | .fault _ | .refused _ => none) = some ([0x01#8, 0x00#8, 0x2E#8, 0x3E#8], some 0x81) ∧
    (match yard.bytesArrive .g [0xA5#8, 0x01#8, 0x00#8, 0x2E#8, 0x3F#8] with
      | .next t => some (t.port .g).cond
      | .fault _ | .refused _ => none) = some .hunting := by
  decide +kernel

/-- R142: the silence timer expires when it reaches the limit of 20; R139: a task timer reaches 299 and then expires. -/
theorem test_seconds :
    let s (e m : Nat) : State := { yard with
      loaders := [(0, { linked (some 1) with silence := some e })]
      tasks := [{ task 1 .survey none (.stack 0) .absent none 0 .issued with timer := some ⟨m, 300⟩ }] }
    ((s 18 0).idle.loader 0).silence = some 19 ∧ ((s 19 0).idle.loader 0).linked = false ∧
      (s 0 298).idle.tasks.map (·.timer) = [some ⟨299, 300⟩] ∧ (s 0 299).idle.tasks.map (·.state) = [.queued] ∧
      (s 0 299).idle.flags = 0x0020#16 := by
  decide +kernel

/-- R180: the minute advances when the second phase reaches 60, from its top to 0. -/
theorem test_minute :
    ({ yard with clock := ⟨4294967295#32, true, 58⟩ } : State).idle.clock = ⟨4294967295#32, true, 59⟩ ∧
      ({ yard with clock := ⟨4294967295#32, true, 59⟩ } : State).idle.clock = ⟨0#32, true, 0⟩ := by
  decide +kernel

/-- Section 11's RESET_PIN with inventory on the move: the sweep's packs, ORPHANS_PRESENT, and the loader's mode kept. -/
theorem test_reset_pin_and_sweep :
    let s : State := { yard with
      packs := [(300, bound 1300 .reserved (.stack 30) 7 1 1100), (301, aboard 1301 7 1 1248 30561 1),
        (302, bound 1302 .onLoader (.loader 2) 7 1 1420)]
      stackMap := [(30, ⟨[300], false⟩)], loaders := [(5, { linked none with mode := .offline })] }
    let r := ran (.resetPin false) (ran .retainedWriteEnd { s with retained := { s.retained with write := some s.retainedContent } })
    let t := ran .startSweep r
    r.cond = .starting ∧ t.packs.map (fun e => (e.1, e.2.state)) = [(300, .stored), (301, .orphaned), (302, .lost)] ∧
      t.flags = 0x8000#16 ∧ (t.loader 5).mode = .offline ∧ t.cond = .ready ∧ t.cause = .resetPin := by
  decide +kernel

/-- Section 5.8's ageing: a promoted truck stands ahead of an EXPRESS truck that arrived after it. -/
theorem test_promotion :
    let a : Truck := truck 1 .waiting none 1 0 [] 0
    let b : Truck := { truck 2 .waiting none 1 0 [] 0 with express := true, arrivalSeq := 2 }
    let s : State := { yard.setWorking .laneCount 0 1 with
      trucks := [(0, a), (1, b), (2, truck 3 .loading (some 0) 1 0 [] 0)], waiting := [1, 0] }
    (ran (.promotion 0) s).waiting = [0, 1] := by
  decide +kernel

/-- A POWER_ON of a new part gives the reset state (log 1). -/
theorem test_power_on_of_a_new_part :
    ran (.powerOn false) { yard with supply := false, retained := { yard.retained with lapse := true } } = State.reset := by
  decide +kernel

end Sys2Proof.Tests
end

