-- ==== Sys2Proof/Tests/Witnesses.lean ====
section
/-! SUPPORT. For each statement with hypotheses, states and operands that meet them, each clause on its own and at the ends of its
ranges. -/
namespace Sys2Proof.Tests
open Sys2Proof.Machine

-- States.

/-- A yard with a pack in each state, a truck in most states, and a loader in most situations. -/
def scene : State := { yard with
  packs := [(0, { stored 100 0 with state := .inbound, loc := .deck, storedAt := none }), (1, bound 101 .onLoader (.loader 1) 0 1 1000),
    (2, stored 102 128), (3, aboard 103 1 1 900 52 1), (4, stored 104 250),
    (5, { stored 105 0 with state := .onLoader, loc := .loader 5 }), (6, bound 106 .reserved (.stack 20) 0 1 1000),
    (7, { stored 107 0 with state := .lost, loc := .none }),
    (8, { stored 108 0 with state := .orphaned, loc := .none, visit := some 77, loadSeq := some 2 }),
    (9, { stored 109 0 with state := .orphaned, loc := .none, visit := some 77, loadSeq := some 1 }),
    (10, { stored 110 30 with hold := true }), (11, { stored 111 0 with state := .inbound, loc := .deck, storedAt := none }),
    (12, bound 112 .reserved (.stack 21) 0 1 1000), (13, aboard 113 3 1 1000 54 1), (14, aboard 114 4 1 1000 55 1),
    (15, { stored 115 0 with state := .orphaned, loc := .none, visit := some 78, hold := true })]
  stackMap := [(20, ⟨[6], false⟩), (21, ⟨[12], false⟩), (30, ⟨[10], false⟩), (128, ⟨[2], false⟩), (250, ⟨[4], false⟩)]
  deck := [0, 11]
  trucks := [(0, truck 51 .loading (some 0) 4 3 [] 3000), (1, { truck 52 .unloading (some 1) 1 1 [3] 900 with partialOk := true }),
    (2, truck 53 .waiting none 1 0 [] 0), (3, truck 54 .loaded (some 3) 1 1 [13] 1000), (4, truck 55 .released none 1 1 [14] 1000),
    (5, truck 56 .cancelling (some 2) 1 0 [] 0), (6, truck 57 .stockWait (some 4) 1 0 [] 0)]
  waiting := [2]
  plan := some ⟨6, some 1, [], [], false, false⟩
  tasks := [task 1 .put (some 0) .deck (.stack 0) none 0 .issued,
    task 2 .fetch (some 1) (.stack 64) (.lane 0) (some 0) 1 .lifted, task 3 .dig (some 2) (.stack 128) (.stack 129) (some 0) 2 .issued,
    task 4 .ret (some 3) (.lane 1) (.stack 1) (some 1) 3 .issued,
    { task 5 .survey none (.stack 250) .absent none 4 .issued with reason := some .suspect },
    task 6 .fetch (some 5) (.stack 10) (.lane 2) none 5 .lifted, task 7 .fetch (some 6) (.stack 20) (.lane 0) (some 0) 6 .queued]
  touches := [⟨.stack 0, 1⟩, ⟨.lane 0, 2⟩, ⟨.stack 128, 3⟩, ⟨.stack 129, 3⟩, ⟨.lane 1, 4⟩, ⟨.stack 1, 4⟩, ⟨.stack 250, 5⟩,
    ⟨.lane 2, 6⟩, ⟨.stack 20, 7⟩, ⟨.lane 0, 7⟩]
  lastId := 7
  loaders := [(0, linked (some 1)), (1, linked (some 2)), (2, linked (some 3)), (3, linked (some 4)), (4, linked (some 5)),
    (5, linked (some 6)), (6, linked none), (7, { linked none with mode := .offline })] }

/-- The scene while the yard is STARTING. -/
def starting : State := { scene with cond := .starting }

/-- The scene without the main supply. -/
def dark : State := { scene with supply := false }

/-- A port that holds an answer. -/
def holding (a : Answer) : PortRec := ⟨.answering, [], false, some ⟨0x81, a⟩, 2⟩

/-- The scene with the office's port in a condition. -/
def atOffice (r : PortRec) : State := { scene with ports := [(2, r)] }

/-- A loader of the scene after its task has ended. -/
def ended (n : Nat) (p : Previous) : State := scene.setLoader n { linked none with previous := some p }

/-- A task of the scene changed. -/
def withTask (id : Nat) (f : Sys2Proof.Machine.Task → Sys2Proof.Machine.Task) : State := scene.updateTask id f

/-- A truck of the scene changed. -/
def withTruck (slot : Nat) (f : Truck → Truck) : State := scene.updateTruck slot f

/-- A plan in the scene. -/
def withPlan (p : Plan) : State := { scene with plan := some p }

-- The laws that the statements take as premises hold of the scene.

theorem witness_LinesLaw : State.LinesLaw scene := by
  refine ⟨rfl, ?_, by decide⟩
  intro n hn
  have hf : ∀ e, scene.flag e = false := by intro e; cases e <;> decide
  constructor
  · intro h
    have : scene.pins.attn = List.replicate 6 false := rfl
    rw [this, List.getElem?_replicate] at h
    simp at h
  · rintro ⟨e, he, -⟩
    rw [hf e] at he
    cases he

theorem sound_of_tags {packs : List (Nat × Pack)} (h : Tab.wf 4096 packs = true) (n : (packs.map (fun e => e.2.tag)).Nodup) :
    packsSound packs := by
  refine ⟨h, fun i j p q hp hq e => ?_⟩
  have := List.inj_on_of_nodup_map n (Tab.mem_of_get? hp) (Tab.mem_of_get? hq) e
  exact congrArg Prod.fst this

theorem witness_TablesLaw : State.TablesLaw scene :=
  ⟨sound_of_tags (by decide) (by decide), by decide, sound_of_tags (by decide) (by decide), sound_of_tags (by decide) (by decide),
    fun _ h => by cases h⟩

theorem witness_PlanQueueLaw : scene.PlanQueueLaw := ⟨by decide, fun _ h => by cases h; decide⟩

theorem witness_LogLaw : scene.LogLaw := ⟨by decide, by decide, by decide, fun _ h => by cases h⟩

theorem witness_StoreLaw : scene.StoreLaw := .inl ⟨by decide, rfl⟩

theorem witness_LaneLaw : scene.LaneLaw := by
  intro i j t u lane hi hj ht hu
  have one : ∀ e ∈ scene.trucks, ∀ f ∈ scene.trucks, e.2.lane ≠ none → e.2.lane = f.2.lane → e.1 = f.1 := by decide
  exact one (i, t) (Tab.mem_of_get? hi) (j, u) (Tab.mem_of_get? hj) (by simp [ht]) (by simp [ht, hu])

/-- The scene with a plan that has picked two packs of two stacks. -/
def picking : State := withPlan ⟨0, some 1, [⟨12, 21, 1, .primary⟩, ⟨6, 20, 1, .primary⟩], [21, 20], false, false⟩

theorem witness_PoolLaw : picking.PoolLaw := ⟨by decide, fun _ => by decide⟩

theorem witness_PlanLaw : picking.PlanLaw := by
  intro p h
  cases h
  refine ⟨by decide, fun st => ?_⟩
  simp [eq_comm]

theorem witness_PlanFits : picking.PlanFits := by
  intro p h
  cases h
  refine ⟨by decide, by decide, by decide, ?_⟩
  intro e he
  fin_cases he
  · exact ⟨_, rfl, by decide⟩
  · exact ⟨_, rfl, by decide⟩

theorem witness_DispatchLaw : scene.DispatchLaw := by
  refine ⟨by decide, by decide, fun n id h => ?_, by decide⟩
  have : n < 8 := by
    by_contra hn
    have e : scene.loader n = Loader.initial := by
      simp [State.loader, scene, Tab.getD, Tab.get?]
      repeat rw [if_neg (by omega)]
      rfl
    rw [e] at h
    cases h
  interval_cases n <;> cases h <;> decide

-- The hypotheses of each statement, in the statements' order. Where a statement speaks of what an operation finds, the witness names it.

theorem takes {s : State} {p : Port} (h : s.supply = true ∧ (s.port p).cond ≠ .answering) : s.Takes p := h

theorem serves {s : State} {p : Port} (h : (s.supply = true ∧ (s.port p).cond ≠ .answering) ∧ s.cond = .ready) : s.Serves p := h

theorem works {s : State} {n : Fin 8}
    (h : ((s.supply = true ∧ (s.port (.l n)).cond ≠ .answering) ∧ s.cond = .ready) ∧ (s.loader n.val).mode ≠ .offline) : s.Works n := h

theorem witness_IdleStepIsOneSecond :
    let full : Timer := ⟨299, 300⟩
    let last : State := { withTask 3 (fun k => { k with timer := some full }) with
      trucks := Tab.modify scene.trucks 2 (fun t => { t with waiting := 60 * scene.ageLimit - 1 })
      loaders := Tab.put scene.loaders 6 { linked none with silence := some 19 } }
    let unlinked : State := scene.setLoader 6 { linked none with linked := false }
    let expiring (s : State) (n : Nat) : Option (Option Nat × Bool × OfficeMode × Option (TaskState × Nat)) :=
      (s.loader n).silence.map (fun _ => ((s.loader n).current, (s.loader n).linked, (s.loader n).mode,
        ((s.loader n).current.bind s.task?).map (fun k => (k.state, k.loader))))
    dark.pending = [] ∧ dark.supply = false ∧ scene.pending = [] ∧ scene.supply = true ∧
      (∀ e ∈ scene.trucks, e.2.state = .waiting → e.2.express = true ∨ min Config.top32 (e.2.waiting + 1) < scene.ageLimit * 60) ∧
      (∀ k ∈ scene.tasks, ∀ m ∈ k.timer, m.elapsed + 1 < m.timeout ∨ m.timeout ≤ m.elapsed) ∧
      (∀ n, n < 8 → ∀ e ∈ (scene.loader n).silence, e + 1 < scene.silenceLimit) ∧
      -- one timer of each kind that reaches its limit in the second
      (last.pending = [] ∧ last.supply = true ∧ Tab.wf 24 last.trucks = true ∧
        (last.truck? 2).map (fun r => (r.state, r.express, decide (last.ageLimit * 60 ≤ min Config.top32 (r.waiting + 1)))) =
          some (.waiting, false, true) ∧
        (last.task? 3).map (fun k => (k.state, k.timer)) = some (.issued, some full) ∧
        (last.loader 6).silence.map (fun e => decide (last.silenceLimit ≤ e + 1)) = some true) ∧
      -- a task timer that runs, of an ISSUED and of a LIFTED task
      (scene.task? 3).map (fun k => (k.state, k.timer)) = some (.issued, some ⟨0, 300⟩) ∧
      (scene.task? 2).map (fun k => (k.state, k.timer)) = some (.lifted, some ⟨0, 300⟩) ∧
      -- a silence timer of an unlinked loader, of one OFFLINE, and of three that are up
      expiring unlinked 6 = some (none, false, .inService, none) ∧ expiring scene 7 = some (none, true, .offline, none) ∧
      expiring scene 6 = some (none, true, .inService, none) ∧ expiring scene 1 = some (some 2, true, .inService, some (.lifted, 1)) ∧
      expiring scene 2 = some (some 3, true, .inService, some (.issued, 2)) := by and_intros <;> decide

theorem witness_LinkJudgesEveryFrame :
    (∃ f, frameOf (.arrive .t 250 (arrival 1 2000 5000)) = some f ∧ scene.Takes f.port ∧ f.msg.permitted f.port = false) ∧
      (∃ f, frameOf (.gone .g 3 1) = some f ∧ scene.Takes f.port ∧ f.msg.permitted f.port = true ∧ f.len ≠ f.want) ∧
      (∃ f, frameOf (.gone .g 4 1) = some f ∧ starting.Takes f.port ∧ f.msg.permitted f.port = true ∧ f.len = f.want ∧
        starting.cond = .starting ∧ f.msg ≠ .status) ∧
      (∃ f, frameOf (.next (.l 7) 0) = some f ∧ scene.Takes f.port ∧ f.msg.permitted f.port = true ∧ f.len = f.want ∧
        scene.cond = .ready ∧ f.msg.refusedOffline = true ∧ f.port = .l 7 ∧ (scene.loader 7).mode = .offline) ∧
      knownCode 0x00 = false ∧ knownCode 0x7F = false ∧ knownCode 0x80 = false ∧ knownCode 0xFF = false ∧ scene.Takes .g :=
  ⟨⟨_, rfl, takes (by decide), by decide⟩, ⟨_, rfl, takes (by decide), by decide⟩,
    ⟨_, rfl, takes (by decide), by decide⟩,
    ⟨_, rfl, takes (by decide), by decide, by decide, by decide, by decide, rfl, by decide⟩, by decide, by decide, by decide, by decide,
    takes (by decide)⟩

theorem witness_FrameAtABusyPortIsLost :
    (∃ f, frameOf (.hold .o 4 1) = some f ∧ ¬ (atOffice (holding (.only .ok))).Takes f.port) ∧ ¬ dark.Takes .o := by
  refine ⟨⟨_, rfl, ?_⟩, ?_⟩ <;> rintro ⟨h, g⟩
  · exact g (by decide)
  · exact absurd h (by decide)

theorem witness_ValidFrameLinksItsLoader :
    scene.Takes (.l 7) ∧ (∃ f t, frameOf (.status (.l 7) 0) = some f ∧ f.port = .l 7 ∧ exec (.status (.l 7) 0) scene = .next t) ∧
      (∃ t, knownCode 0x03 = false ∧ exec (.unknownMessage (.l 7) 0x03) scene = .next t) :=
  ⟨takes (by decide), ⟨_, _, rfl, rfl, rfl⟩, ⟨_, by decide, rfl⟩⟩

theorem witness_PortEvents :
    let receiving : PortRec := ⟨.receiving, [], true, none, 2⟩
    (scene.supply = true ∧ (scene.port .o).cond = .hunting) ∧ ((atOffice receiving).port .o).cond ≠ .hunting ∧ dark.supply = false ∧
      ((atOffice receiving).supply = true ∧ ((atOffice receiving).port .o).cond = .receiving) ∧
      (scene.port .o).cond ≠ .receiving ∧
      (((atOffice (holding (.only .ok))).port .o).cond = .answering ∧
        ∀ c ∈ ((atOffice (holding (.only .ok))).port .o).tx, c.answer = .only .ok) ∧
      (scene.port .o).cond ≠ .answering ∧
      -- a frame taken; the longest body and a wrong check behind it; a length byte one too great
      (∃ f, frameOf (.gone .g 4 1) = some f ∧ scene.Takes f.port) ∧ (List.replicate 250 (0#8 : Byte)).length ≤ 250 ∧
      ([0#8, 0#8] : List Byte) ≠ be2 (crc (0x01#8 :: BitVec.ofNat 8 0 :: [])).toNat ∧ 250 < BitVec.toNat (251#8 : Byte) := by
  refine ⟨by decide, by decide, by decide, by decide, by decide, by decide, by decide, ⟨_, rfl, takes (by decide)⟩, List.length_replicate.le,
    by decide +kernel, by decide⟩

theorem witness_StatusIsAnswered : scene.Takes .g ∧ starting.Takes (.l 7) := ⟨takes (by decide), takes (by decide)⟩

theorem witness_EventAckClearsTheNamedFlags :
    isStation .g = true ∧ isStation .o = true ∧ scene.Takes .g ∧ scene.cond = .ready ∧ starting.Takes .o ∧ starting.cond = .starting :=
  ⟨by decide, by decide, takes (by decide), by decide, takes (by decide), by decide⟩

theorem witness_TruckQueryReadsOneTruck :
    scene.Serves .g ∧ scene.Serves .o ∧ scene.findVisit 4294967294 = none ∧ (scene.findVisit 51).map (·.1) = some 0 ∧
      scene.truck? 23 = none ∧ (scene.truck? 0).isSome = true :=
  ⟨serves (by decide), serves (by decide), by decide⟩

theorem witness_OfficeQueriesRead :
    scene.Serves .o ∧ scene.findTag 4294967294 = none ∧ (scene.findTag 100).map (·.1) = some 0 ∧ (∀ e ∈ scene.packs, e.1 < 4095) ∧
      (scene.packs.find? (fun e => decide (3 ≤ e.1))).map (·.1) = some 3 :=
  ⟨serves (by decide), by decide⟩

theorem witness_DeckQueryReadsTheDeck : scene.Takes .t ∧ scene.cond = .ready ∧ starting.Takes .t ∧ starting.cond = .starting :=
  ⟨takes (by decide), by decide, takes (by decide), by decide⟩

theorem witness_HelloReadsTheLoader : scene.Takes (.l 7) ∧ scene.cond = .ready ∧ starting.Takes (.l 7) ∧ starting.cond = .starting :=
  ⟨takes (by decide), by decide, takes (by decide), by decide⟩

theorem witness_CfgGetReadsOneItem :
    scene.Serves .o ∧ SettingKind.ofNum 23 = none ∧ SettingKind.ofNum 22 = some .route ∧ SettingKind.count .route = 16 ∧
      SettingKind.ofNum 0 = some .bayEnabled ∧ SettingKind.count .bayEnabled = 64 :=
  ⟨serves (by decide), by decide⟩

theorem witness_ClockSetWritesTheClock : scene.Takes .o ∧ scene.cond = .ready ∧ starting.Takes .o ∧ starting.cond = .starting :=
  ⟨takes (by decide), by decide, takes (by decide), by decide⟩

theorem witness_WetLevelAndRestartAreTaken : scene.Serves .o := serves (by decide)

/-- A shipment record. -/
def record : Shipment := ⟨51, 0, none, 2000, 0, none, ⟨true, false, false, false, false⟩, []⟩

theorem witness_ShipmentLogIsFirstInFirstOut :
    let full (n : Nat) : State := { scene with shipLog := List.replicate n record }
    (full 31).shipLog.length < 32 ∧ 32 ≤ (full 32).shipLog.length ∧ scene.Takes .o ∧ scene.cond = .ready ∧ scene.shipLog = [] ∧
      (full 1).Takes .o ∧ (full 1).shipLog = record :: [] ∧ starting.Takes .o ∧ starting.cond = .starting ∧ scene.Takes .g :=
  ⟨by decide, by decide, takes (by decide), by decide, by decide, takes (by decide), by decide, takes (by decide), by decide,
    takes (by decide)⟩

theorem witness_HoldHoldsThePack :
    let found (tag n : Nat) (state : PackState) : Prop :=
      validTag tag = true ∧ (scene.findTag tag).map (·.1) = some n ∧ scene.findTag tag = (scene.pack? n).map (fun q => (n, q)) ∧
        (scene.pack? n).map (·.state) = some state
    scene.Serves .o ∧ validTag 0 = false ∧ validTag 4294967295 = false ∧ (validTag 4294967294 = true ∧ scene.findTag 4294967294 = none) ∧
      found 101 1 .onLoader ∧ found 103 3 .onTruck ∧
      (found 106 6 .reserved ∧ ((withTask 7 (fun k => { k with state := .issued })).taskOf 6).map (fun k => (k.kind, k.state)) =
        some (.fetch, .issued)) ∧
      found 100 0 .inbound ∧ found 102 2 .stored ∧ found 107 7 .lost ∧ found 108 8 .orphaned ∧
      -- a RESERVED pack without a task, with a QUEUED FETCH, and with another task at a loader
      (found 112 12 .reserved ∧ (scene.pack? 12).bind (·.reservation) ≠ none ∧ scene.taskOf 12 = none) ∧
      (found 106 6 .reserved ∧ (scene.pack? 6).bind (·.reservation) ≠ none ∧
        (scene.taskOf 6).map (fun k => (k.kind, k.state)) = some (.fetch, .queued)) ∧
      ((withTask 7 (fun k => { k with kind := .dig, state := .issued })).taskOf 6).map (fun k => (k.kind, k.state)) =
        some (.dig, .issued) :=
  ⟨serves (by decide), by and_intros <;> decide⟩

theorem witness_FreeAndWriteOffOnePack :
    let found (tag n : Nat) : Prop := validTag tag = true ∧ scene.findTag tag = (scene.pack? n).map (fun q => (n, q))
    scene.Serves .o ∧ validTag 0 = false ∧ (validTag 1 = true ∧ scene.findTag 1 = none) ∧
      (found 102 2 ∧ (scene.pack? 2).map (fun q => (q.hold, q.state)) = some (false, .stored)) ∧
      (found 115 15 ∧ (scene.pack? 15).map (fun q => (q.hold, q.state)) = some (true, .orphaned)) ∧
      (found 110 10 ∧ (scene.pack? 10).map (fun q => (q.hold, q.state)) = some (true, .stored)) ∧
      (found 107 7 ∧ (scene.pack? 7).map (·.state) = some .lost) :=
  ⟨serves (by decide), by decide⟩

/-- A request with fields in range, for a tag. -/
def fields (tag : Nat) : PackReq := ⟨tag, ⟨15, 7, 15, 15, 15, 3, 3⟩, false, 9999, 16000, 1, 20000⟩

theorem witness_PackDefineWritesTheRecord :
    scene.Serves .o ∧ PackReq.fieldsOk { fields 1 with volume := 0 } = false ∧ validTag 0 = false ∧
      (validTag 1 = true ∧ PackReq.fieldsOk (fields 1) = true ∧ scene.findTag 1 = none) ∧
      [100, 101, 102, 103, 106, 107, 108, 110].map (fun g => (scene.findTag g).map (fun e => (e.2.state, e.2.hold))) =
        [some (.inbound, false), some (.onLoader, false), some (.stored, false), some (.onTruck, false), some (.reserved, false),
          some (.lost, false), some (.orphaned, false), some (.stored, true)] :=
  ⟨serves (by decide), by decide⟩

theorem witness_PackInTalliesThePack :
    let crowded : State := { scene with deck := List.range 11 }
    let whole : State := { scene with packs := (List.range 4096).map (fun i => (i, stored 1 0)) }
    let good (g : Nat) : Prop := validTag g = true ∧ PackReq.fieldsOk (fields g) = true
    scene.Serves .t ∧ ¬ good 0 ∧ (good 100 ∧ scene.findTag 100 ≠ none) ∧
      (whole.Serves .t ∧ good 2 ∧ 4096 ≤ whole.packs.length) ∧
      (good 1 ∧ crowded.findTag 1 = none ∧ crowded.packs.length < 4096 ∧ crowded.occupancy = 11) ∧
      ({ scene with deck := List.range 12 } : State).occupancy = 12 ∧ Tab.wf 4096 scene.packs = true :=
  ⟨serves (by decide), by decide, by decide, ⟨serves (by decide), by decide, by simp⟩, by decide⟩

theorem witness_PackInTableFull :
    ({ scene with packs := (List.range 4096).map (fun i => (i, stored 1 0)) } : State).findTag 2 = none := by decide +kernel

theorem witness_DeckPullTakesThePackOff :
    scene.Serves .t ∧ validTag 0 = false ∧ scene.findTag 1 = none ∧ (scene.findTag 102).map (fun e => e.2.state) = some .stored ∧
      ((scene.findTag 100).map (fun e => (e.1, e.2.state)) = some (0, .inbound) ∧ (scene.taskOf 0).map (·.state) = some .issued) ∧
      -- an INBOUND pack without a task, and with a PUT that is QUEUED or LIFTED
      ((scene.findTag 111).map (fun e => (e.1, e.2.state)) = some (11, .inbound) ∧ scene.taskOf 11 = none) ∧
      ∀ state ∈ [TaskState.queued, .lifted],
        (State.taskOf { scene with tasks := scene.tasks ++ [task 8 .put (some 11) .deck (.stack 2) none 6 state] } 11).map
          (fun k => (k.state, k.dest)) = some (state, .stack 2) :=
  ⟨serves (by decide), by decide⟩

theorem witness_ArriveIsRefusedInOrder :
    let crowded : State := { scene with trucks := (List.range 24).map (fun n => (n, truck (100 + n) .waiting none 1 0 [] 0)) }
    let fields (r : ArriveReq) : Prop := ArriveReq.fieldsOk r = true
    let order (r : ArriveReq) : Prop := ArriveReq.orderOk r = true
    let payload (r : ArriveReq) : Prop := r.tare + scene.margin < r.gross
    scene.Serves .g ∧ ¬ fields (arrival 0 4599 5000) ∧
      (fields { arrival 9 4599 5000 with lines := (arrival 9 4599 5000).lines.map (fun l => { l with want := 11 }) } ∧
        ¬ order { arrival 9 4599 5000 with lines := (arrival 9 4599 5000).lines.map (fun l => { l with want := 11 }) }) ∧
      (fields (arrival 9 4600 5000) ∧ order (arrival 9 4600 5000) ∧ ¬ payload (arrival 9 4600 5000)) ∧
      (fields (arrival 51 4599 5000) ∧ order (arrival 51 4599 5000) ∧ payload (arrival 51 4599 5000) ∧ scene.findVisit 51 ≠ none) ∧
      (crowded.Serves .g ∧ crowded.findVisit 9 = none ∧ 24 ≤ crowded.trucks.length) :=
  ⟨serves (by decide), by decide, by decide, by decide, by decide, serves (by decide), by decide⟩

theorem witness_ArriveWritesTheTruck :
    scene.Serves .g ∧ ArriveReq.fieldsOk (arrival 9 4599 5000) = true ∧ ArriveReq.orderOk (arrival 9 4599 5000) = true ∧
      4599 + scene.margin < 5000 ∧ scene.findVisit 9 = none ∧ scene.trucks.length < 24 ∧ scene.orphansOf 9 = [] ∧
      Tab.wf 24 scene.trucks = true :=
  ⟨serves (by decide), by decide⟩

theorem witness_ReentryAttachesTheOrphans :
    scene.Serves .g ∧ ArriveReq.fieldsOk (arrival 77 4599 5000) = true ∧ ArriveReq.orderOk (arrival 77 4599 5000) = true ∧
      4599 + scene.margin < 5000 ∧ scene.findVisit 77 = none ∧ scene.trucks.length < 24 ∧ Tab.wf 4096 scene.packs = true ∧
      scene.orphansOf 77 = [9, 8] ∧ scene.orphansOf 78 = [15] ∧ scene.orphansOf 1 = [] :=
  ⟨serves (by decide), by decide⟩

theorem witness_WeighReleasesUnloadsOrMarks :
    scene.Serves .g ∧ validTag 0 = false ∧ (validTag 54 = true ∧ ¬ 80001 ≤ 80000) ∧ scene.findVisit 1 = none ∧
      (scene.findVisit 51).map (fun e => e.2.state) = some .loading ∧
      (scene.findVisit 54).map (fun e => (e.2.state, e.2.gross, e.2.load)) = some (.loaded, 40000, [13]) ∧
      ((withTruck 3 (fun t => { t with load := [] })).findVisit 54).map (fun e => (e.2.state, e.2.gross, e.2.load)) =
        some (.loaded, 40000, []) :=
  ⟨serves (by decide), by decide⟩

theorem witness_GoneShipsWhatStandsThere :
    let found (v slot : Nat) : Prop := validTag v = true ∧ scene.findVisit v = (scene.truck? slot).map (fun t => (slot, t))
    scene.Serves .g ∧ validTag 4294967295 = false ∧ (scene.findVisit 1 = none ∧ scene.orphansOf 1 = []) ∧
      (scene.findVisit 77 = none ∧ scene.orphansOf 77 ≠ []) ∧
      (found 55 4 ∧ (scene.truck? 4).map (·.state) = some .released) ∧
      (found 53 2 ∧ (scene.truck? 2).map (fun t => (t.state, t.load)) = some (.waiting, [])) ∧
      (found 54 3 ∧ (scene.truck? 3).map (fun t => (t.state, t.load)) = some (.loaded, [13])) ∧
      -- a truck with tasks in three states, a reserved pack among them, and a pick of its plan
      (found 51 0 ∧ (scene.truck? 0).map (·.state) = some .loading ∧ (scene.tasks.map (·.id)).Nodup ∧
        (scene.tasks.filter (fun k => k.truck == some 0)).map (fun k => (k.kind, k.state, k.pack)) =
          [(.fetch, .lifted, some 1), (.dig, .issued, some 2), (.fetch, .queued, some 6)] ∧
        (scene.pack? 6).map (fun q => (q.state, q.reservation.isSome)) = some (.reserved, true) ∧
        (withPlan ⟨0, some 1, [⟨12, 21, 1, .primary⟩], [21], false, false⟩).planInFlight 0 = true ∧
        ((scene.pack? 12).bind (·.reservation)).isSome = true) :=
  ⟨serves (by decide), by decide⟩

theorem witness_CancelUnwindsTheTruck :
    let found (v slot : Nat) (state : TruckState) : Prop :=
      validTag v = true ∧ scene.findVisit v = (scene.truck? slot).map (fun t => (slot, t)) ∧ (scene.truck? slot).map (·.state) = some state
    let waitingWithLoad : State := withTruck 2 (fun t => { t with load := [13] })
    scene.Serves .g ∧ scene.Serves .o ∧ validTag 0 = false ∧ scene.findVisit 1 = none ∧ found 55 4 .released ∧ found 56 5 .cancelling ∧
      found 53 2 .waiting ∧ (waitingWithLoad.Serves .g ∧ (waitingWithLoad.findVisit 53).map (fun e => e.2.load) = some [13] ∧
        (waitingWithLoad.pack? 13).isSome = true) ∧
      found 51 0 .loading ∧ (found 57 6 .stockWait ∧ scene.planInFlight 6 = true) ∧
      -- a truck that waits in the Plan Queue, with a QUEUED FETCH of a RESERVED pack
      (({ scene with planQueue := [3, 0] } : State).findVisit 51).map (·.1) = some 0 ∧
      (scene.task? 7).map (fun k => (k.kind, k.state, k.truck, k.pack)) = some (.fetch, .queued, some 0, some 6) ∧
      (scene.pack? 6).map (fun q => (q.state, q.reservation.isSome)) = some (.reserved, true) :=
  ⟨serves (by decide), serves (by decide), by decide, by decide, by decide, by decide, by decide,
    ⟨serves (by decide), by decide⟩, by decide⟩

theorem witness_PartialSetsAcceptPartial :
    let found (v slot : Nat) (state : TruckState) (partialOk : Bool) : Prop :=
      validTag v = true ∧ scene.findVisit v = (scene.truck? slot).map (fun t => (slot, t)) ∧
        (scene.truck? slot).map (fun t => (t.state, t.partialOk)) = some (state, partialOk)
    scene.Serves .o ∧ validTag 0 = false ∧ scene.findVisit 1 = none ∧ found 56 5 .cancelling false ∧ found 55 4 .released false ∧
      found 52 1 .unloading true ∧ found 57 6 .stockWait false ∧ found 53 2 .waiting false :=
  ⟨serves (by decide), by decide⟩

theorem witness_EvaluationFollowsItsTable :
    (scene.truck? 2).map (·.state) = some .waiting ∧
      -- an entry into LOADED
      ((withTruck 6 (fun t => { t with load := [13], partialOk := true })).truck? 6).map (fun t => (t.state, t.load)) =
        some (.stockWait, [13]) ∧
      scene.outstanding 6 = 0 ∧
      -- entries into STOCK_WAIT, with the plan in flight and without
      (withTruck 6 (fun t => { t with state := .planned })).planInFlight 6 = true ∧
      ((withTruck 5 (fun t => { t with state := .planned })).truck? 5).map (·.state) = some .planned ∧ scene.outstanding 5 = 0 ∧
      scene.planInFlight 5 = false ∧
      -- no entry into either
      (scene.truck? 0).map (·.state) = some .loading ∧ 0 < scene.outstanding 0 := by decide

theorem witness_LoaderModeIsWritten :
    scene.Serves .o ∧ OfficeMode.ofByte 2 = some .offline ∧ OfficeMode.ofByte 3 = none ∧ (scene.loader 7).mode = .offline ∧
      ((scene.loader 1).mode ≠ .offline ∧
        ((scene.loader 1).current.bind scene.task?).map (fun k => (k.state, k.loader, k.pack)) = some (.lifted, 1, some 1)) ∧
      ((scene.loader 2).mode ≠ .offline ∧
        ((scene.loader 2).current.bind scene.task?).map (fun k => (k.state, k.loader)) = some (.issued, 2)) ∧
      ((scene.loader 6).mode ≠ .offline ∧ (scene.loader 6).current = none) ∧
      -- LINKED loaders that go down or come up, unlinked ones that do neither, and a mode between two that are up
      (∀ n, n < 8 → (scene.loader n).linked = true) ∧ OfficeMode.ofByte 0 = some .inService ∧ OfficeMode.ofByte 1 = some .stopped ∧
      (∀ m ∈ [OfficeMode.inService, .offline],
        (scene.setLoader 6 { linked none with linked := false, mode := m }).loader 6 = { linked none with linked := false, mode := m }) :=
  ⟨serves (by decide), by decide⟩

theorem witness_StocktakeBegins :
    let active : State := { scene with stocktake := { scene.stocktake with active := true } }
    scene.Serves .o ∧ 7 < 8 ∧ active.Serves .o ∧ active.stocktake.active = true ∧ scene.stocktake.active = false ∧
      scene.bayZone 31 = 3 ∧ scene.bayEnabled 31 = true ∧ scene.bayEnabled 32 = false :=
  ⟨serves (by decide), by decide, serves (by decide), by decide⟩

theorem witness_CfgSetIsRefusedByItsOwningRule :
    let busy (s : State) (st : Nat) : Prop := (s.stack st).list ≠ [] ∨ ∃ k ∈ s.tasks, k.source = .stack st ∨ k.dest = .stack st
    let s : State := scene.setWorking .zonePartner 0 1
    cfgOf (.cfgSetBay .o 4 23 0 0) = some ⟨.o, 4, 23, 0, 0⟩ ∧ SettingKind.ofNum 23 = none ∧ scene.Serves .o ∧
      SettingKind.count .bayEnabled = 64 ∧ SettingKind.count .deckZone = 1 ∧
      (SettingKind.valueInRange .bayTierLimit 4 = true ∧ scene.setting .bayTierLimit 2 ≠ 4 ∧ busy scene (8 * 2 + 4)) ∧
      (SettingKind.valueInRange .bayZone 7 = true ∧ scene.setting .bayZone 16 ≠ 7 ∧ busy scene (8 * 16 + 1)) ∧
      (s.Serves .o ∧ SettingKind.valueInRange .zonePrimary 1 = true ∧ s.setting .zonePartner 0 = 1) ∧
      (SettingKind.valueInRange .zonePartner 0 = true ∧ scene.setting .zonePrimary 0 = 0) ∧
      (SettingKind.valueInRange .millHigh 6 = true ∧ 6 ≤ scene.setting .millLow 0) ∧
      (SettingKind.valueInRange .millLow 10 = true ∧ scene.setting .millHigh 0 ≤ 10) ∧
      (SettingKind.valueInRange .gateHigh 10 = true ∧ 10 ≤ scene.setting .gateLow 0) ∧
      (SettingKind.valueInRange .gateLow 16 = true ∧ scene.setting .gateHigh 0 ≤ 16) :=
  ⟨by decide, by decide, serves (by decide), by decide, by decide, by decide, by decide, ⟨serves (by decide), by decide⟩,
    by decide⟩

theorem witness_CfgSetWritesTheSetting :
    let good (k : SettingKind) (index value : Nat) : Prop :=
      SettingKind.ofNum k.num = some k ∧ index < k.count ∧ scene.cfgRefusal k index value = none
    scene.Serves .o ∧ cfgOf (.cfgSetBay .o 4 0 63 1) = some ⟨.o, 4, 0, 63, 1⟩ ∧ good .bayEnabled 63 1 ∧ good .bayTierLimit 5 7 ∧
      good .zonePrimary 7 0 ∧ good .zonePartner 0 255 ∧ good .density 63 1200 ∧ good .millHigh 0 12 ∧ good .millLow 0 0 ∧
      good .gateHigh 0 24 ∧ good .gateLow 0 15 ∧ good .ageLimit 0 1 ∧ good .laneCount 0 8 ∧ good .silenceLimit 0 5 ∧
      good .portRate 10 4 ∧ good .route 15 255 ∧ good .margin 0 2000 :=
  ⟨serves (by decide), by decide⟩

/-- Trucks that have waited the age limit, two of one arrival sequence; a truck one second short of it; loaders at the silence limit, and
one second short of it, in each case of an expiry. -/
theorem witness_CfgSetEffects :
    let waited (seq seconds : Nat) : Truck := { truck (60 + seq) .waiting none 1 0 [] 0 with arrivalSeq := seq, waiting := seconds }
    let s : State := { scene with
      trucks := [(2, waited 4 60), (3, waited 3 59), (7, waited 4 61), (9, waited 1 60)]
      working := [(SettingKind.key .ageLimit 0, 1), (SettingKind.key .silenceLimit 0, 5)]
      loaders := [(0, { linked none with silence := some 5 }), (1, { linked (some 2) with silence := some 6 }),
        (2, { linked (some 3) with silence := some 5 }), (3, { linked none with linked := false, silence := some 5 }),
        (4, { linked none with mode := .offline, silence := some 7 }), (6, { linked none with silence := some 4 })] }
    (Tab.wf 24 s.trucks = true ∧ s.setting .ageLimit 0 = 1 ∧ s.setting .silenceLimit 0 = 5 ∧
      [2, 3, 7, 9].map (fun j => (s.truck? j).map (fun r => (r.state, r.express, decide (s.setting .ageLimit 0 * 60 ≤ r.waiting)))) =
        [some (.waiting, false, true), some (.waiting, false, false), some (.waiting, false, true), some (.waiting, false, true)]) ∧
      [0, 1, 2, 3, 4, 6].map (fun n => (s.loader n).silence.map (fun e => decide (s.setting .silenceLimit 0 ≤ e))) =
        [some true, some true, some true, some true, some true, some false] ∧
      ((s.loader 0).linked = true ∧ (s.loader 0).mode ≠ .offline ∧ (s.loader 0).current.bind s.task? = none) ∧
      ((s.loader 1).linked = true ∧ ((s.loader 1).current.bind s.task?).map (·.state) = some .lifted) ∧
      ((s.loader 2).linked = true ∧ ((s.loader 2).current.bind s.task?).map (fun k => (k.state, k.loader)) = some (.issued, 2)) ∧
      (s.loader 3).linked = false ∧ ((s.loader 4).linked = true ∧ (s.loader 4).mode = .offline) := by
  and_intros <;> decide +kernel

/-- Values at the ends of their ranges that no rule refuses. -/
theorem witness_CfgSetIsAccepted :
    let admitted (k : SettingKind) (index v : Nat) : Prop :=
      (∀ top, (k, top) ∈ [(SettingKind.bayEnabled, 1), (.bayZone, 7), (.bayCovered, 1), (.zonePrimary, 7), (.deckZone, 7), (.uplift, 30),
          (.margin, 2000), (.millLow, 11), (.gateLow, 23), (.laneZone, 7), (.maxDigDepth, 3), (.portRate, 4)] → v ≤ top) ∧
      (∀ low top, (k, low, top) ∈ [(SettingKind.bayTierLimit, 1, 7), (.wetDwell, 1, 240), (.millHigh, 1, 12), (.gateHigh, 1, 24),
          (.ageLimit, 1, 240), (.laneCount, 1, 8), (.taskTimeout, 30, 1800), (.silenceLimit, 5, 120)] → low ≤ v ∧ v ≤ top) ∧
      (k = .zonePartner → v ≤ 7 ∨ v = 255) ∧ (k = .route → v ≤ 5 ∨ v = 255) ∧ (k = .density → v = 0 ∨ 200 ≤ v ∧ v ≤ 1200) ∧
      (k = .bayEnabled ∨ k = .bayZone ∨ k = .bayTierLimit → scene.setting k index ≠ v →
        ∀ n, n < 8 → (scene.stack (8 * index + n)).list = [] ∧
          ∀ j ∈ scene.tasks, j.source ≠ .stack (8 * index + n) ∧ j.dest ≠ .stack (8 * index + n)) ∧
      (k = .zonePrimary → scene.setting .zonePartner index ≠ v) ∧ (k = .zonePartner → scene.setting .zonePrimary index ≠ v) ∧
      (k = .millHigh → scene.setting .millLow 0 < v) ∧ (k = .millLow → v < scene.setting .millHigh 0) ∧
      (k = .gateHigh → scene.setting .gateLow 0 < v) ∧ (k = .gateLow → v < scene.setting .gateHigh 0)
    admitted .bayEnabled 63 1 ∧ admitted .bayZone 5 7 ∧ admitted .bayTierLimit 5 1 ∧ admitted .zonePrimary 7 0 ∧
      admitted .zonePartner 0 255 ∧ admitted .density 63 200 ∧ admitted .millHigh 0 12 ∧ admitted .millLow 0 0 ∧
      admitted .gateHigh 0 24 ∧ admitted .gateLow 0 15 ∧ admitted .taskTimeout 4 1800 ∧ admitted .portRate 10 4 ∧
      admitted .route 15 255 := by
  and_intros <;> simp <;> decide

theorem witness_LoaderRequestsNameTheirTask :
    scene.Works 6 ∧ (scene.loader 6).current ≠ some 60 ∧ (scene.loader 6).previous = none ∧
      ((ended 6 ⟨60, .revoked⟩).Works 6 ∧ ((ended 6 ⟨60, .revoked⟩).loader 6).previous = some ⟨60, .revoked⟩) ∧
      ((ended 6 ⟨60, .ended .place (.only .ok)⟩).Works 6 ∧
        ((ended 6 ⟨60, .ended .place (.only .ok)⟩).loader 6).previous = some ⟨60, .ended .place (.only .ok)⟩) ∧
      validTag 0 = false ∧ validTag 4294967294 = true :=
  ⟨works (by decide), by decide, by decide, ⟨works (by decide), by decide⟩, ⟨works (by decide), by decide⟩, by decide⟩

theorem witness_NextOffersATask :
    let mine (k : Sys2Proof.Machine.Task) : Prop := k.state = .queued ∧ k.loader = 6
    let stopped : State := scene.setLoader 6 { linked none with mode := .stopped }
    let buried : State := { scene with stackMap := [(20, ⟨[6, 2], false⟩)] }
    let two : State := { buried with
      deck := [11]
      tasks := scene.tasks ++ [task 8 .put (some 11) .deck (.stack 2) none 6 .queued], touches := scene.touches ++ [⟨.stack 2, 8⟩] }
    (scene.Works 2 ∧ (scene.loader 2).current = some 3 ∧ ((scene.hear (.l 2)).task? 3).isSome = true) ∧
      (stopped.Works 6 ∧ (stopped.loader 6).current = none ∧ (stopped.loader 6).mode = .stopped) ∧
      ((withTask 7 (fun k => { k with loader := 7 })).Works 6 ∧
        ∀ k ∈ ((withTask 7 (fun k => { k with loader := 7 })).hear (.l 6)).tasks, ¬ mine k) ∧
      (scene.Works 6 ∧ (scene.loader 6).current = none ∧ (scene.loader 6).mode = .inService ∧
        ((scene.hear (.l 6)).tasks.map (·.id)).Nodup ∧ (scene.hear (.l 6)).tasks.map (·.id) = [1, 2, 3, 4, 5, 6] ++ 7 :: [] ∧
        ∀ k ∈ (scene.hear (.l 6)).tasks, mine k → k.id = 7 ∧ (scene.hear (.l 6)).displaced k = false ∧
          (scene.hear (.l 6)).issuable k = true) ∧
      (buried.Works 6 ∧ ∀ k ∈ (buried.hear (.l 6)).tasks, mine k → k.id = 7 ∧ (buried.hear (.l 6)).displaced k = true ∧
        ∀ j ∈ (State.displace { buried.hear (.l 6) with marks := {} } k).tasks, ¬ mine j) ∧
      (two.Works 6 ∧ (((two.hear (.l 6)).tasks.filter (fun x => x.state == .queued && x.loader == 6)).map (·.id) = [] ++ 7 :: ([] ++ 8 :: []) ∧
        ∀ k ∈ (two.hear (.l 6)).tasks, k.id = 7 → (two.hear (.l 6)).displaced k = true ∧
          ∀ y ∈ (State.displace { two.hear (.l 6) with marks := {} } k).tasks, y.id = 8 →
            (State.displace { two.hear (.l 6) with marks := {} } k).displaced y = false ∧
              (State.displace { two.hear (.l 6) with marks := {} } k).issuable y = true)) :=
  ⟨⟨works (by decide), by decide⟩, ⟨works (by decide), by decide⟩, ⟨works (by decide), by decide⟩,
    ⟨works (by decide), by decide⟩, ⟨works (by decide), by decide⟩, ⟨works (by decide), by decide⟩⟩

theorem witness_LiftTakesThePack :
    let at? (s : State) (n id : Nat) : Option (TaskKind × TaskState × Source × Option Nat × Option Nat) :=
      if (s.loader n).current = some id then
        (s.task? id).map (fun k => (k.kind, k.state, k.source, k.truck, (k.pack.bind s.pack?).map (·.tag)))
      else none
    let lifted : State := withTask 2 (fun k => { k with liftTarget := some ⟨.lane 0, 0⟩ })
    (scene.Works 4 ∧ at? scene 4 5 = some (.survey, .issued, .stack 250, none, none)) ∧
      (lifted.Works 1 ∧ at? lifted 1 2 = some (.fetch, .lifted, .stack 64, some 0, some 101) ∧
        (lifted.task? 2).bind (·.liftTarget) = some ⟨.lane 0, 0⟩) ∧
      (scene.Works 0 ∧ at? scene 0 1 = some (.put, .issued, .deck, none, some 100)) ∧
      (scene.Works 2 ∧ at? scene 2 3 = some (.dig, .issued, .stack 128, some 0, some 102)) ∧
      (scene.Works 3 ∧ at? scene 3 4 = some (.ret, .issued, .lane 1, some 1, some 103)) :=
  ⟨⟨works (by decide), by decide⟩, ⟨works (by decide), by decide⟩, ⟨works (by decide), by decide⟩,
    ⟨works (by decide), by decide⟩, ⟨works (by decide), by decide⟩⟩

theorem witness_FailedTaskLosesItsPack :
    let at? (n id : Nat) : Option (TaskKind × TaskState × Source × Nat × Option Nat) :=
      if (scene.loader n).current = some id then
        (scene.task? id).map (fun k => (k.kind, k.state, k.source, k.loader, (k.pack.bind scene.pack?).map (·.tag)))
      else none
    Tab.wf 4096 scene.packs = true ∧
      (scene.Works 0 ∧ at? 0 1 = some (.put, .issued, .deck, 0, some 100)) ∧
      (scene.Works 2 ∧ at? 2 3 = some (.dig, .issued, .stack 128, 2, some 102)) ∧
      (scene.Works 3 ∧ at? 3 4 = some (.ret, .issued, .lane 1, 3, some 103)) ∧
      scene.findTag 1 = none ∧ (scene.findTag 102).map (fun e => e.2.state) = some .stored ∧
      (scene.findTag 111).map (fun e => e.2.state) = some .inbound :=
  ⟨by decide, ⟨works (by decide), by decide⟩, ⟨works (by decide), by decide⟩, ⟨works (by decide), by decide⟩, by decide⟩

theorem witness_PlaceSetsThePackDown :
    let at? (s : State) (n id : Nat) : Option ((TaskKind × TaskState × Dest) × (Option Nat × Nat × Bool)) :=
      if (s.loader n).current = some id ∧ ((s.task? id).bind (·.pack)).bind s.pack? ≠ none then
        (s.task? id).map (fun k => ((k.kind, k.state, k.dest), (k.truck, k.loader, k.converted)))
      else none
    let unresolved : State := withTask 6 (fun k => { k with kind := .ret, converted := true, source := .lane 2, dest := .unresolved })
    let converted : State := withTask 6 (fun k => { k with kind := .ret, converted := true, source := .lane 2, dest := .stack 511 })
    let digging : State := withTask 3 (fun k => { k with state := .lifted, dest := .stack 129 })
    (scene.Works 2 ∧ at? scene 2 3 = some ((.dig, .issued, .stack 129), (some 0, 2, false))) ∧
      (unresolved.Works 5 ∧ at? unresolved 5 6 = some ((.ret, .lifted, .unresolved), (none, 5, true))) ∧
      (converted.Works 5 ∧ at? converted 5 6 = some ((.ret, .lifted, .stack 511), (none, 5, true))) ∧
      (digging.Works 2 ∧ at? digging 2 3 = some ((.dig, .lifted, .stack 129), (some 0, 2, false))) ∧
      (scene.Works 1 ∧ at? scene 1 2 = some ((.fetch, .lifted, .lane 0), (some 0, 1, false)) ∧ (scene.truck? 0).isSome = true) ∧
      (scene.Works 5 ∧ at? scene 5 6 = some ((.fetch, .lifted, .lane 2), (none, 5, false))) :=
  ⟨⟨works (by decide), by decide⟩, ⟨works (by decide), by decide⟩, ⟨works (by decide), by decide⟩, ⟨works (by decide), by decide⟩,
    ⟨works (by decide), by decide⟩, ⟨works (by decide), by decide⟩⟩

/-- The two outcomes of the conversion's search: a stack of the lane's zone, and, with every bay disabled, none. -/
theorem witness_PlaceConversion :
    let turned (s : State) : State := { s.hear (.l 5) with
      tasks := (s.hear (.l 5)).tasks.map (fun j =>
        if j.id = 6 then { j with kind := .ret, converted := true, source := .lane 2, zone := s.laneZone 2, dest := .unresolved } else j)
      touches := s.touches.filter (fun u => !(u.place == .lane 2 && u.task == 6)), marks := {} }
    let closed : State := { scene with working := (List.range 32).map (fun b => (b, 0)) }
    ((turned scene).select ⟨.ret, 5, .lane 2, true⟩).isSome = true ∧ (turned closed).select ⟨.ret, 5, .lane 2, true⟩ = none := by
  decide +kernel

theorem witness_PutBackAndBlockedRequeue :
    let at? (s : State) (n id : Nat) : Option ((TaskKind × TaskState × Source) × (Option Nat × Nat × Bool)) :=
      if (s.loader n).current = some id ∧ (∀ j ∈ (s.hear (.l (Fin.ofNat 8 n))).tasks, j.id = id → some j = s.task? id) then
        (s.task? id).map (fun k => ((k.kind, k.state, k.source), (k.truck, k.loader, k.converted)))
      else none
    let carrying (id : Nat) (pack loader : Nat) (f : Sys2Proof.Machine.Task → Sys2Proof.Machine.Task) : State :=
      { withTask id (fun k => f { k with state := .lifted }) with
        packs := Tab.modify scene.packs pack (fun q => { q with state := .onLoader, loc := .loader loader }) }
    let put : State := { carrying 1 0 0 id with deck := [11] }
    let next : State := { put with
      tasks := put.tasks ++ [task 8 .put (some 11) .deck (.stack 2) none 6 .issued],
      loaders := Tab.put put.loaders 6 (linked (some 8)) }
    let dig : State := carrying 3 2 2 id
    let cancelled : State := withTruck 0 (fun t => { t with state := .cancelling })
    let kept : Kept := ⟨⟨1, some 1, some .primary, 900⟩, some 52, some 1⟩
    let ret : State := carrying 4 3 3 (fun k => { k with kept := some kept })
    (scene.Works 4 ∧ at? scene 4 5 = some ((.survey, .issued, .stack 250), (none, 4, false))) ∧
      (scene.Works 5 ∧ at? scene 5 6 = some ((.fetch, .lifted, .stack 10), (none, 5, false))) ∧
      (put.Works 0 ∧ at? put 0 1 = some ((.put, .lifted, .deck), (none, 0, false)) ∧ put.deck.head?.bind (put.hear (.l 0)).taskOf = none) ∧
      (next.Works 0 ∧ at? next 0 1 = some ((.put, .lifted, .deck), (none, 0, false)) ∧
        (next.deck.head?.bind (next.hear (.l 0)).taskOf).map (fun j => (j.kind, j.state, j.loader)) = some (.put, .issued, 6)) ∧
      (dig.Works 2 ∧ at? dig 2 3 = some ((.dig, .lifted, .stack 128), (some 0, 2, false))) ∧
      (scene.Works 1 ∧ at? scene 1 2 = some ((.fetch, .lifted, .stack 64), (some 0, 1, false)) ∧
        ((scene.hear (.l 1)).task? 2).map (scene.hear (.l 1)).cancelling = some false) ∧
      (cancelled.Works 1 ∧ at? cancelled 1 2 = some ((.fetch, .lifted, .stack 64), (some 0, 1, false)) ∧
        ((cancelled.hear (.l 1)).task? 2).map (cancelled.hear (.l 1)).cancelling = some true ∧
        ((cancelled.pack? 1).bind (·.reservation)).isSome = true) ∧
      (ret.Works 3 ∧ at? ret 3 4 = some ((.ret, .lifted, .lane 1), (some 1, 3, false)) ∧ (ret.task? 4).bind (·.kept) = some kept) :=
  ⟨⟨works (by decide), by decide⟩, ⟨works (by decide), by decide⟩, ⟨works (by decide), by decide⟩,
    ⟨works (by decide), by decide⟩, ⟨works (by decide), by decide⟩, ⟨works (by decide), by decide⟩,
    ⟨works (by decide), by decide⟩, ⟨works (by decide), by decide⟩⟩

theorem witness_SurveyReportRewritesTheStack :
    let listed (count : Nat) (tags : List Nat) : Prop :=
      count = tags.length ∧ count ≤ 7 ∧ (∀ g ∈ tags, validTag g = true) ∧ tags.Nodup
    let whole : State := { scene with packs := (List.range 4096).map (fun i => (i, stored 1 0)) }
    let at? (s : State) : Option (TaskKind × TaskState × Source × Nat × Option Reason) :=
      (s.task? 5).map (fun k => (k.kind, k.state, k.source, k.loader, k.reason))
    let st : State := withTask 5 (fun k => { k with reason := some .stocktake })
    (scene.Works 2 ∧ ((scene.loader 2).current.bind scene.task?).map (·.kind) = some .dig) ∧
      (scene.Works 4 ∧ (scene.loader 4).current = some 5 ∧ at? scene = some (.survey, .issued, .stack 250, 4, some .suspect)) ∧
      (st.Works 4 ∧ (st.loader 4).current = some 5 ∧ at? st = some (.survey, .issued, .stack 250, 4, some .stocktake)) ∧
      (¬ listed 2 [104, 104] ∧ ¬ listed 8 [1, 2, 3, 4, 5, 6, 7, 8] ∧ ¬ listed 1 [0]) ∧
      (listed 1 [103] ∧ (scene.findTag 103).map (fun e => e.2.state) = some .onTruck) ∧
      (whole.Works 4 ∧ Tab.wf 4096 whole.packs = true ∧ 4096 < whole.packs.length + 1) ∧
      (listed 0 [] ∧ listed 7 [104, 102, 107, 1, 2, 3, 4] ∧ (∀ g ∈ [104, 102, 107, 1, 2, 3, 4], ∀ e ∈ scene.findTag g, e.2.state ≠ .onTruck) ∧
        (∀ j ∈ (scene.stack 250).list, scene.pack? j ≠ none) ∧ (scene.findTag 104).map (·.1) = some 4 ∧ (scene.stack 250).list = [4] ∧
        scene.findTag 1 = none) ∧
      -- packs taken in: from two other stacks, without a task, with a QUEUED one and with one at a loader; and from the deck
      (listed 4 [112, 106, 102, 100] ∧
        [112, 106, 102, 100].map (fun g => (scene.findTag g).map (fun e => (e.1, e.2.loc, (scene.taskOf e.1).map (·.state)))) =
          [some (12, .stack 21, none), some (6, .stack 20, some .queued), some (2, .stack 128, some .issued),
            some (0, .deck, some .issued)] ∧
        scene.deck.length < scene.millHigh ∧ ((scene.hear (.l 4)).tasks.map (·.id)).Nodup ∧
        (∀ y ∈ (scene.hear (.l 4)).tasks, ∀ z ∈ (scene.hear (.l 4)).tasks,
          y.state = .issued ∨ y.state = .lifted → z.state = .issued ∨ z.state = .lifted → z.loader = y.loader → z = y)) ∧
      -- a pack not reported that is a task's object
      ((withTask 7 (fun k => { k with pack := some 4 })).taskOf 4).map (·.id) = some 7 :=
  ⟨⟨works (by decide), by decide⟩, ⟨works (by decide), by decide⟩, ⟨works (by decide), by decide⟩, by decide,
    by decide, ⟨works (by decide), by decide +kernel, by simp⟩, by decide⟩

theorem witness_TimersExpire :
    let ran : State := withTask 3 (fun k => { k with timer := some ⟨300, 300⟩ })
    (scene.truck? 2).map (fun t => (t.state, t.express)) = some (.waiting, false) ∧ scene.truck? 23 = none ∧
      (scene.truck? 0).map (·.state) = some .loading ∧
      (scene.task? 3).map (fun k => (k.state, k.timer)) = some (.issued, some ⟨0, 300⟩) ∧
      (scene.task? 2).map (fun k => (k.state, k.timer)) = some (.lifted, some ⟨0, 300⟩) ∧
      ((ran.task? 3).map (·.timer) = some (some ⟨300, 300⟩) ∧ scene.task? 0 = none) := by decide

theorem witness_LoadersGoDownAndComeUp :
    let silent : State := scene.setLoader 6 { linked none with linked := false, silence := some 0 }
    let quiet : State := scene.setLoader 6 { linked none with linked := false, silence := none }
    let off : State := scene.setLoader 6 { linked none with mode := .offline, silence := some 19 }
    (quiet.loader 6).silence = none ∧ ((silent.loader 6).silence = some 0 ∧ (silent.loader 6).linked = false) ∧
      ((off.loader 6).linked = true ∧ (off.loader 6).mode = .offline) ∧
      ((scene.loader 1).silence = some 3 ∧ (scene.loader 1).linked = true ∧ (scene.loader 1).mode ≠ .offline ∧
        ((scene.loader 1).current.bind scene.task?).map (·.state) = some .lifted) ∧
      ((scene.loader 2).silence = some 3 ∧ (scene.loader 2).linked = true ∧ (scene.loader 2).mode ≠ .offline ∧
        ((scene.loader 2).current.bind scene.task?).map (fun k => (k.state, k.loader)) = some (.issued, 2)) := by decide

theorem witness_TaskIsCreatedAtTheTail :
    let filled (n : Nat) : State := { scene with tasks := List.replicate n (task 9 .put (some 0) .deck (.stack 0) none 0 .queued) }
    let owed (b : List (Nat × Reason)) : State := { scene with backlog := b }
    let surveyed (st : Nat) : Prop := ∃ k ∈ scene.tasks, k.kind = .survey ∧ k.source = .stack st
    (scene.tasks.length ≤ 512 ∧ scene.lastId ≤ 65535 ∧ ({ scene with lastId := 65535 } : State).lastId ≤ 65535) ∧
      -- the last entry a creator may take under a plan and without one, and the first it may not
      ((filled 415).plan.isSome = true ∧ (filled 415).tasks.length + 97 ≤ 512 ∧ ¬(filled 416).tasks.length + 97 ≤ 512) ∧
      ((filled 511).tasks.length < 512 ∧ ¬(filled 512).tasks.length < 512) ∧
      ((scene.truck? 1).map (·.lane) = some (some 1) ∧ (scene.taskOf 11).isNone = true ∧ (scene.taskOf 0).isSome = true) ∧
      -- a SUSPECT entry of a higher id before a STOCKTAKE entry, and a Backlog whose stacks are all being surveyed
      (scene.cond = .ready ∧ scene.tasks.countP (fun k => k.kind == .survey) < 16 ∧ scene.tasks.length + 97 ≤ 512) ∧
      (Tab.wf 512 (owed [(3, .stocktake), (511, .suspect)]).backlog = true ∧ ¬ surveyed 3 ∧ ¬ surveyed 511 ∧ surveyed 250) := by
  have count : ∀ n, (List.replicate n (task 9 .put (some 0) .deck (.stack 0) none 0 .queued)).length = n := fun _ => List.length_replicate
  refine ⟨by decide, ⟨rfl, ?_, ?_⟩, ⟨?_, ?_⟩, by decide⟩ <;> rw [count] <;> decide

/-- The Selector finds a stack in the lane's zone, and none there but one elsewhere. -/
theorem witness_SelectorFollowsItsPreference :
    let only (b : Nat) : State := { scene with working := ((List.range 32).filter (· ≠ b)).map (fun b => (b, 0)) }
    -- a stack that a task is bound for, and one that a task only leaves
    (scene.touches = [] ++ ⟨.stack 0, 1⟩ :: scene.touches.tail ∧ (scene.task? 1).map (·.dest) = some (.stack 0) ∧
      ∀ v ∈ scene.touches.tail, v.place ≠ .stack 0) ∧
      (∀ u ∈ scene.touches, u.place = .stack 128 → (scene.task? u.task).map (·.dest) ≠ some (.stack 128)) ∧
      scene.setting .bayEnabled (8 / 8) = 1 ∧ (scene.stack 8).list = [] ∧ scene.pendingArrivals 8 = 0 ∧
      scene.setting .bayZone (8 / 8) = scene.setting .laneZone 0 ∧ (only 24).select ⟨.ret, 2, .lane 0, false⟩ = some 192 ∧
      scene.select ⟨.ret, 2, .lane 0, false⟩ ≠ none ∧
      -- a task that asks again, with an answer and without, and a stack with a destination to clear
      (scene.task? 1).map (fun k => (k.kind, k.pack, k.source, k.dest)) = some (.put, some 0, .deck, .stack 0) ∧
      scene.select ⟨.put, 0, .deck, false⟩ ≠ none ∧
      ({ scene with working := (List.range 32).map (fun b => (b, 0)) } : State).select ⟨.put, 0, .deck, false⟩ = none := by
  decide +kernel

theorem witness_WaitingQueueStaysInOrder :
    let trucks : List (Nat × Truck) := [(0, truck 1 .waiting none 1 0 [] 0), (1, { truck 2 .waiting none 1 0 [] 0 with express := true }),
      (2, { truck 3 .waiting none 1 0 [] 0 with arrivalSeq := 2 })]
    Tab.get? trucks 2 = some { truck 3 .waiting none 1 0 [] 0 with arrivalSeq := 2 } ∧
      (∀ j ∈ [1, 0], (Tab.get? trucks j).isSome = true) ∧
      [1, 0].Pairwise (fun a b => ∀ u v, Tab.get? trucks a = some u → Tab.get? trucks b = some v →
        (u.express = true ∧ v.express = false) ∨ (u.express = v.express ∧ u.arrivalSeq ≤ v.arrivalSeq)) := by
  refine ⟨rfl, by decide, ?_⟩
  rw [List.pairwise_pair]
  intro u v hu hv
  cases hu
  cases hv
  decide

/-- A truck that waits with lanes 0 to 4 held and lane 5 free; every lane held; the gate at its marks, between them, and crossed. -/
theorem witness_AdmissionAndTheGate :
    let full : State := { scene with trucks := (List.range 8).map (fun n => (n, truck (60 + n) .loading (some n) 1 0 [] 0)) }
    let crossed : State := (scene.setWorking .gateHigh 0 1).setWorking .gateLow 0 1
    (Tab.wf 24 scene.trucks = true ∧ scene.waiting = 2 :: [] ∧ (scene.truck? 2).isSome = true ∧ scene.cond = .ready ∧
      5 < (scene.setWorking .laneCount 0 6).setting .laneCount 0 ∧ scene.laneHolder 5 = none ∧ ∀ l, l < 5 → (scene.laneHolder l).isSome = true) ∧
      (∀ l, l < full.setting .laneCount 0 → (full.laneHolder l).isSome = true) ∧
      (∀ slot ∈ scene.waiting, (scene.truck? slot).map (·.lane) = some none) ∧ scene.setting .laneCount 0 ≤ 8 ∧
      (scene.setting .gateLow 0 < scene.setting .gateHigh 0 ∧ scene.waiting.length ≤ scene.setting .gateLow 0) ∧
      (crossed.setting .gateHigh 0 ≤ crossed.waiting.length ∧ crossed.waiting.length ≤ crossed.setting .gateLow 0) := by decide

theorem witness_ReservationEnds :
    let reserved (s : State) (p slot : Nat) (state : TruckState) : Prop :=
      (s.pack? p).bind (·.reservation) = some ⟨slot, some 1, some .primary, 1000⟩ ∧ (s.truck? slot).map (·.state) = some state
    let planned : State := withPlan ⟨0, some 1, [⟨12, 21, 1, .primary⟩], [21], false, false⟩
    reserved scene 13 3 .loaded ∧ reserved scene 14 4 .released ∧ (reserved scene 12 0 .loading ∧ scene.planInFlight 0 = false) ∧
      (reserved planned 12 0 .loading ∧ planned.planInFlight 0 = true) ∧
      -- requests: not plannable, in flight, in the queue, outside it
      ((scene.truck? 3).map (·.state) = some .loaded ∧ ((scene.truck? 6).map (·.state) = some .stockWait ∧ scene.planInFlight 6 = true) ∧
        ({ scene with planQueue := [0] } : State).planQueue.contains 0 = true ∧ scene.planQueue.contains 0 = false) ∧
      -- new stock that a truck waits for, and packs that are not passed on
      (Tab.wf 24 scene.trucks = true ∧ (scene.pack? 4).map (fun q => (q.state, q.hold)) = some (.stored, false) ∧
        (scene.pack? 10).map (·.hold) = some true ∧ (scene.pack? 7).map (·.state) = some .lost ∧
        (scene.truck? 6).bind (fun u => (scene.pack? 4).map (fun q => u.wants q.attrs)) = some true) := by decide

theorem witness_EstimateIsRoundedUpAndHeld :
    let q : Pack := { stored 1 0 with measured := none }
    let rated : State := scene.setWorking .density 9 480
    let covered : State := rated.setWorking .bayCovered 0 1
    (q.measured = none ∧ scene.setting .density (2 * 4 + 1) = 0) ∧ (stored 1 0).measured = some 1000 ∧
      (rated.setting .density (2 * 4 + 1) = 480 ∧ 1000 * 480 ≤ 480 * 1000 ∧ 480 * 1000 < 1000 * 480 + 1000) ∧
      0 < rated.setting .wetDwell 0 ∧ covered.setting .bayCovered (0 / 8) = 1 ∧ rated.setting .bayCovered (0 / 8) ≠ 1 ∧
      (rated.setting .wetDwell 0 * 60 ≤ (720#32 : Minute).toNat ∧ ¬ rated.setting .wetDwell 0 * 60 ≤ (719#32 : Minute).toNat) := by decide

theorem witness_SettlingKeepsTheRest :
    let idle : State := { scene with plan := none, planQueue := [6, 0] }
    let counting : State := { scene with stocktake := { scene.stocktake with active := true } }
    ((scene.truck? 3).map (·.state) = some .loaded ∧ 3 ∉ scene.waiting ∧ scene.plan.isSome = true) ∧
      -- a cancellation with nothing left, with a load to return, with a FETCH on its way
      ((scene.truck? 5).map (fun t => (t.state, t.load)) = some (.cancelling, []) ∧ scene.planInFlight 5 = false ∧
        (∀ k ∈ scene.tasks, k.truck ≠ some 5) ∧ (∀ e ∈ scene.returns, e.slot ≠ 5)) ∧
      ((withTruck 5 (fun t => { t with load := [14] })).truck? 5).map (fun t => (t.state, t.load)) = some (.cancelling, [14]) ∧
      ((withTask 6 (fun k => { k with truck := some 5 })).task? 6).map (fun k => (k.kind, k.truck)) = some (.fetch, some 5) ∧
      -- slots to free: of the Waiting Queue, of the Plan Queue, and of a plan in flight with picks
      (scene.waiting = [2] ∧ (scene.truck? 2).isSome = true ∧ scene.planInFlight 2 = false) ∧
      (idle.planQueue = [6, 0] ∧ (idle.truck? 0).isSome = true ∧ idle.planInFlight 0 = false) ∧
      (picking.plan.map (fun p => (p.slot, p.picks.map (·.pack))) = some (0, [12, 6]) ∧ (picking.truck? 0).isSome = true ∧
        ∀ j ∈ [12, 6, 13], ((picking.pack? j).bind (·.reservation)).isSome = true) ∧
      -- an unloading that ends, and one with a RETURN
      ((scene.truck? 1).map (·.state) = some .unloading ∧ (scene.task? 4).map (fun k => (k.kind, k.truck)) = some (.ret, some 1) ∧
        ({ scene with tasks := [] } : State).hasTask .ret 1 = false) ∧
      -- the engine takes a truck, or the pool or the yard holds it
      (idle.planQueue = 6 :: [0] ∧ idle.cond = .ready ∧ idle.tasks.length + 96 ≤ 512 ∧ ¬ 417 + 96 ≤ 512 ∧ starting.cond ≠ .ready) ∧
      -- a stocktake that ends, and one with a SURVEY
      (counting.stocktake.active = true ∧ (∀ e ∈ counting.backlog, e.2 ≠ .stocktake) ∧
        (∀ k ∈ counting.tasks, ¬(k.kind = .survey ∧ k.reason = some .stocktake))) ∧
      ((withTask 5 (fun k => { k with reason := some .stocktake })).task? 5).map (fun k => (k.kind, k.reason)) =
        some (.survey, some .stocktake) := by and_intros <;> decide

theorem witness_SearchFindsTheBestCandidate :
    let t : Truck := truck 57 .stockWait (some 4) 1 0 [] 0
    -- a key that a pack matches, and one that it misses in one field
    (Key.accepts spruce (stored 1 0).attrs = true ∧ Key.accepts { spruce with lengthMax := 9 } (stored 1 0).attrs = false) ∧
      Tab.wf 4096 scene.packs = true ∧ (scene.searchLine [] t ⟨1, spruce, none, 0⟩).map (fun e => (e.1.1, e.2)) = none ∧
      (({ scene with touches := [], tasks := [] } : State).searchLine [] t ⟨1, spruce, none, 0⟩).map (fun e => (e.1.1, e.2)) =
        some (2, .primary) ∧
      (({ scene with touches := [], tasks := [] } : State).searchLine [] t
        ⟨1, { spruce with species := some 3 }, some spruce, 0⟩).map (fun e => (e.1.1, e.2)) = some (2, .alternate) := by decide

theorem witness_PickStepTakesOneStep :
    let free : State := { scene with touches := [], tasks := [] }
    let on (s : State) (slot : Nat) (line : Option Nat) (abort : Bool) : State := { s with plan := some ⟨slot, line, [], [], abort, false⟩ }
    let state? (s : State) : Option (Option Nat × Bool × TruckState) :=
      s.plan.bind (fun p => (s.truck? p.slot).map (fun t => (p.line, p.abort, t.state)))
    ({ scene with plan := none } : State).plan = none ∧ state? (on scene 5 (some 1) true) = some (some 1, true, .cancelling) ∧
      ((withPlan ⟨0, some 1, [⟨12, 21, 1, .primary⟩], [21], true, false⟩).pack? 12).map (fun q => (q.state, q.reservation.isSome)) =
        some (.reserved, true) ∧
      state? (on scene 3 (some 1) false) = some (some 1, false, .loaded) ∧
      -- a line that is full, one for which nothing is found, and one for which a pack is
      ((withTruck 6 (fun t => { t with lines := [⟨1, spruce, none, 1⟩] })).truck? 6).bind (fun t => t.lines[0]?) =
        some ⟨1, spruce, none, 1⟩ ∧
      (state? scene = some (some 1, false, .stockWait) ∧ scene.packCount 6 < 20 ∧
        (scene.truck? 6).map (fun t => (scene.searchLine [] t ⟨1, spruce, none, 0⟩).isSome) = some false) ∧
      (state? (on free 6 (some 1) false) = some (some 1, false, .stockWait) ∧
        ((free.truck? 6).bind (fun t => free.searchLine [] t ⟨1, spruce, none, 0⟩)).map (fun e => (e.1.1, e.1.2.loc)) =
          some (2, .stack 128)) ∧
      state? (on scene 6 none false) = some (none, false, .stockWait) ∧ state? (on scene 4 none false) = some (none, false, .released) ∧
      -- a completion of two stacks
      ((scene.truck? 6).map (·.lane) = some (some 4) ∧ (withPlan ⟨6, none, [⟨12, 21, 1, .primary⟩, ⟨6, 20, 1, .primary⟩], [21, 20],
        false, false⟩).plan.map (·.stackOrder) = some [21, 20]) ∧
      -- a completion with picks for their own truck, which asks for a replan
      ((scene.truck? 0).map (fun t => (t.state, t.lane)) = some (.loading, some 0) ∧
        state? { picking with plan := some ⟨0, none, [⟨12, 21, 1, .primary⟩, ⟨6, 20, 1, .primary⟩], [21, 20], false, true⟩ } =
          some (none, false, .loading)) := by
  and_intros <;> decide +kernel

/-- A walk that ends, and one that the Selector stops. -/
theorem witness_CompletionWalksFromTheTop :
    let s : State := { scene with stackMap := [(0, ⟨[12, 10], false⟩)], tasks := [], touches := [] }
    let closed : State := { s with working := (List.range 32).map (fun b => (b, 0)) }
    (picked [⟨12, 0, 1, .primary⟩] 12 = true ∧ picked [⟨12, 0, 1, .primary⟩] 10 = false ∧
      s.select ⟨.dig, 10, .stack 0, false⟩ ≠ none ∧ closed.select ⟨.dig, 10, .stack 0, false⟩ = none) ∧
    (s.walk [⟨12, 0, 1, .primary⟩] 0 0 0 [10, 12]).tasks.map (fun k => (k.kind, k.pack)) = [(.dig, some 10), (.fetch, some 12)] ∧
      (closed.walk [⟨12, 0, 1, .primary⟩] 0 0 0 [10, 12]).tasks = [] ∧
      ((closed.walk [⟨12, 0, 1, .primary⟩] 0 0 0 [10, 12]).pack? 12).map (fun q => (q.state, q.reservation)) = some (.stored, none) := by
  decide +kernel

/-- A pick that lies too deep, and one at the max dig depth. -/
theorem witness_DepthIsJudgedFirst :
    let at? (depth : Nat) : State := { scene.setWorking .maxDigDepth 0 depth with
      stackMap := [(21, ⟨[12, 10], false⟩)], plan := some ⟨0, none, [⟨12, 21, 1, .primary⟩], [21], false, false⟩ }
    let buried (s : State) : Nat :=
      ((((s.stack 21).list.dropWhile (fun a => !(a == 12))).drop 1).filter (fun a => !(picked s.picks a))).length
    ((at? 0).setting .maxDigDepth 0 < buried (at? 0) ∧ ¬(at? 1).setting .maxDigDepth 0 < buried (at? 1)) ∧
      ((at? 0).pack? 12).map (fun q => (q.state, q.reservation.isSome)) = some (.reserved, true) := by decide

theorem witness_StoresAndClockEvents :
    let listed : State := { scene with writeList := [⟨64 * 22 + 15, 5⟩], writing := true }
    let imaged : State := { scene with retained := { scene.retained with write := some scene.retainedContent } }
    let older : State := { imaged with retained := { imaged.retained with a := { imaged.retained.a with gen := 2 } } }
    scene.supply = true ∧ dark.supply = false ∧ listed.writeList ≠ [] ∧ scene.writeList = [] ∧
      (listed.writing = true ∧ (⟨64 * 22 + 15, 5⟩ : WriteEntry).item = SettingKind.key .route 15 ∧ 15 < SettingKind.count .route) ∧
      scene.writing = false ∧ (imaged.retained.write.isSome = true ∧ imaged.retained.a.gen ≤ imaged.retained.b.gen) ∧
      (older.retained.write.isSome = true ∧ older.retained.b.gen < older.retained.a.gen) ∧ scene.retained.write = none := by decide

theorem witness_ResetsBeginAStart :
    let restarting (c : ResetCause) : State := atOffice (holding (.restart c))
    let lapsed : State := { scene with retained := { scene.retained with lapse := true } }
    -- a valid store and an invalid one, and the cause that empties it
    scene.retained.lapse = false ∧ scene.retained.b.ok = true ∧ lapsed.retained.lapse = true ∧
      scene.supply = true ∧ (starting.cond = .starting ∧ starting.cause = .powerOn) ∧ dark.supply = false ∧
      (((restarting .officeRestart).port .o).cond = .answering ∧
        ((restarting .officeRestart).port .o).tx = some ⟨0x81, .restart .officeRestart⟩) ∧
      ((restarting .officeRestartClear).port .o).tx = some ⟨0x81, .restart .officeRestartClear⟩ := by decide

theorem witness_StartSweepMakesTheYardReady :
    (starting.supply = true ∧ starting.cond = .starting) ∧ scene.cond = .ready ∧ dark.supply = false := by decide

theorem witness_EveryStepKeepsTheLines :
    State.LinesLaw scene ∧ scene.Quiet ∧ ∃ t, step scene = .next t := ⟨witness_LinesLaw, rfl, _, rfl⟩

theorem witness_EveryStepKeepsTheFlags :
    let s : State := { scene with flags := 0x0001#16, pending := [.eventAck .o 2 0x0002#16] }
    (∃ t, step s = .next t) ∧ s.flag .truckCalled = true ∧ (0x0002#16 : FlagSet).getLsbD (Event.bit .truckCalled) = false :=
  ⟨⟨_, rfl⟩, by decide⟩

theorem witness_EveryStepKeepsTheTables :
    ∃ t, State.TablesLaw { scene with pending := [.startSweep] } ∧ step { scene with pending := [.startSweep] } = .next t :=
  ⟨_, witness_TablesLaw, rfl⟩

theorem witness_EveryStepKeepsTheQueuesAndTheStore :
    picking.PlanLaw ∧ scene.PlanQueueLaw ∧ scene.TablesLaw ∧ scene.LaneLaw ∧ scene.LogLaw ∧ scene.StoreLaw ∧
      ∃ t, step scene = .next t ∧ t.retained.lapse = false :=
  ⟨witness_PlanLaw, witness_PlanQueueLaw, witness_TablesLaw, witness_LaneLaw, witness_LogLaw, witness_StoreLaw, _, rfl, by decide +kernel⟩

/-- The scene with a plan whose pick has no task yet. -/
def apart : State := withPlan ⟨0, some 1, [⟨12, 21, 1, .primary⟩], [21], false, false⟩

theorem witness_PicksLaw : apart.PicksLaw ∧ picking.PicksLaw := by
  constructor <;> intro p h <;> cases h <;> refine ⟨by decide, ?_⟩ <;> intro e he <;> fin_cases he <;>
    exact ⟨_, _, rfl, by decide, rfl, by decide⟩

theorem witness_PicksApart : apart.PicksApart := by
  refine ⟨by decide, by decide, ?_⟩
  intro p h e he
  cases h
  fin_cases he
  refine ⟨by decide, fun slot t ht => ?_⟩
  exact (by decide : ∀ f ∈ apart.trucks, 12 ∉ f.2.load) (slot, t) (Tab.mem_of_get? ht)

theorem witness_SettingsLaw : apart.SettingsLaw ∧ picking.SettingsLaw := by
  have h : ∀ k : SettingKind, ∀ i, i < k.count →
      k.valueInRange (apart.setting k i) = true ∧ k.valueInRange (apart.storedSetting k i) = true := by
    intro k
    cases k <;> decide +kernel
  exact ⟨fun k i hi => ⟨(h k i hi).1, (h k i hi).2, fun _ he => by cases he⟩,
    fun k i hi => ⟨(h k i hi).1, (h k i hi).2, fun _ he => by cases he⟩⟩

theorem witness_EveryStepKeepsTheDispatch :
    (picking.PoolLaw ∧ picking.PlanLaw ∧ picking.PlanFits ∧ ∃ t, step picking = .next t) ∧
      (scene.DispatchLaw ∧ ∃ t, step scene = .next t ∧ t.tasks.length ≤ 512) ∧
      (apart.TablesLaw ∧ apart.PicksLaw ∧ apart.PicksApart ∧ apart.SettingsLaw ∧ (∀ e ∈ apart.trucks, e.2.maxPacks ≤ 24) ∧
        (∀ p, apart.plan = some p → p.picks.length ≤ 24) ∧ ∃ t, step apart = .next t) ∧
      (picking.PicksLaw ∧ picking.SettingsLaw ∧ ∀ p, picking.plan = some p →
        p.picks.length ≤ 24 ∧ (p.stackOrder.flatMap (fun st => (picking.stack st).list)).Nodup) :=
  ⟨⟨witness_PoolLaw, witness_PlanLaw, witness_PlanFits, _, rfl⟩, ⟨witness_DispatchLaw, _, rfl, by decide +kernel⟩,
    ⟨witness_TablesLaw, witness_PicksLaw.1, witness_PicksApart, witness_SettingsLaw.1, by decide, fun p h => by cases h; decide, _, rfl⟩,
    witness_PicksLaw.2, witness_SettingsLaw.2, fun p h => by cases h; decide⟩

theorem witness_ResetMeetsTheLaws :
    let s : State := { yard with retained := { yard.retained with lapse := true } }
    s.pending = [] ∧ s.stored = [] ∧ s.retained.lapse = true := by decide

end Sys2Proof.Tests
end

section
/-! SUPPORT. The office's queries that read one record (R20, R41, R42): what each act gives in each of its cases, and the statement O10. -/
namespace Sys2Proof.Machine

variable {s : State} {selector value id : Nat}

-- PACK_QUERY (R20): one equation for each outcome.

theorem packQuery_badField
    (h : 2 ≤ selector ∨ (selector = 0 ∧ (value = 0 ∨ 4294967295 ≤ value)) ∨ (selector = 1 ∧ 4096 ≤ value)) :
    packQuery selector value s = refuse .badField s := by
  rcases h with hsel | ⟨rfl, hval⟩ | ⟨rfl, hval⟩
  · simp only [packQuery, if_neg (by omega : selector ≠ 0), if_neg (by omega : selector ≠ 1)]
  · have hbad : validTag value = false := by
      rw [Bool.eq_false_iff, ne_eq, validTag_iff]
      omega
    simp only [packQuery, hbad, if_true]
  · have hbad : Config.packCount ≤ value := hval
    simp only [packQuery, if_neg one_ne_zero, if_true, if_pos hbad]

theorem packQuery_tag_unknown (hv : validTag value = true) (h : s.findTag value = none) :
    packQuery 0 value s = refuse .noSuchPack s := by
  simp [packQuery, hv, h]

theorem packQuery_tag_found (hv : validTag value = true) {n : Nat} {q : Pack} (h : s.findTag value = some (n, q)) :
    packQuery 0 value s = (s, fun left => .pack (left.packView n q)) := by
  simp [packQuery, hv, h]

theorem packQuery_index_none (hv : value < 4096) (h : ∀ e ∈ s.packs, e.1 < value) :
    packQuery 1 value s = refuse .noSuchPack s := by
  have hin : ¬ Config.packCount ≤ value := Nat.not_le.2 hv
  have hnone : s.packs.find? (fun e => decide (value ≤ e.1)) = none := by
    simpa [List.find?_eq_none] using h
  simp [packQuery, hin, hnone]

theorem packQuery_index_found (hv : value < 4096) {n : Nat} {q : Pack}
    (h : s.packs.find? (fun e => decide (value ≤ e.1)) = some (n, q)) :
    packQuery 1 value s = (s, fun left => .pack (left.packView n q)) := by
  have hin : ¬ Config.packCount ≤ value := Nat.not_le.2 hv
  simp [packQuery, hin, h]

/-- PACK_QUERY's act decides its answer on the state without marks, whose records are those of `s`. -/
theorem packQuery_answers {f : State → Answer} {a : Answer} (h : s.Serves .o)
    (ha : packQuery selector value s.clearMarks = (s.clearMarks, f)) (hf : f s.clearMarks = a) :
    s.Answers (.packQuery .o 5 selector value) .o 0xC6 a s :=
  State.station_same (m := .packQuery) rfl h rfl rfl ha rfl hf

-- STACK_QUERY (R42) and STOCKTAKE_QUERY (R41).

theorem stackQuery_unknown (h : 512 ≤ id) : stackQuery id s = refuse .noSuchStack s := if_pos h

theorem stackQuery_known (h : id < 512) : stackQuery id s = (s, fun left => .stack (left.stackView id)) :=
  if_neg (Nat.not_le.2 h)

theorem stackQuery_answers {f : State → Answer} {a : Answer} (h : s.Serves .o)
    (ha : stackQuery id s.clearMarks = (s.clearMarks, f)) (hf : f s.clearMarks = a) :
    s.Answers (.stackQuery .o 2 id) .o 0xC7 a s :=
  State.station_same (m := .stackQuery) rfl h rfl rfl ha rfl hf

theorem stocktakeQuery_answers (h : s.Serves .o) :
    s.Answers (.stocktakeQuery .o 0) .o 0xCB (.stocktakeRecord s.stocktake) s :=
  State.station_same (m := .stocktakeQuery) (act := stocktakeQuery) rfl h rfl rfl rfl rfl rfl

/-- Settles O10, case by case: the act of each query leaves the state as it is, and its view holds the items of R20, R41 and R42. -/
theorem officeQueriesRead : Obligations.OfficeQueriesRead := by
  intro selector value id s h
  refine ⟨fun hbad => packQuery_answers h (packQuery_badField hbad) rfl, fun hsel hlo hhi => ?_, fun hsel hval => ?_,
    fun hid => stackQuery_answers h (stackQuery_unknown hid) rfl, fun hid => stackQuery_answers h (stackQuery_known hid) rfl,
    stocktakeQuery_answers h⟩
  · subst hsel
    have hv : validTag value = true := (validTag_iff value).2 ⟨hlo, hhi⟩
    exact ⟨fun hnone => packQuery_answers h (packQuery_tag_unknown hv hnone) rfl,
      fun n q hfound => packQuery_answers h (packQuery_tag_found hv hfound) rfl⟩
  · subst hsel
    exact ⟨fun hnone => packQuery_answers h (packQuery_index_none hval hnone) rfl,
      fun n q hfound => packQuery_answers h (packQuery_index_found hval hfound) rfl⟩

end Sys2Proof.Machine
end

section
/-! SUPPORT. PACK_DEFINE (R19): what its act gives in each of its cases, what passing a pack on as new stock does (R11), and the statement
O19. -/
namespace Sys2Proof.Machine

variable {s : State} {r : PackReq} {n : Nat} {q : Pack}

-- Passing a pack on (R11).

theorem State.passOn_new_stock (hq : s.pack? n = some q) (hs : q.state = .stored) (hh : q.hold = false) :
    s.passOn n = s.newStock n := by
  simp [State.passOn, hq, hs, hh]

theorem State.passOn_unchanged (hq : s.pack? n = some q) (hs : q.state ≠ .stored ∨ q.hold = true) : s.passOn n = s := by
  rcases hs with hs | hs <;> simp [State.passOn, hq, hs]

theorem State.pack?_setPack_same : (s.setPack n q).pack? n = some q := Tab.get?_put_same s.packs n q

-- The record PACK_DEFINE writes keeps the pack's state and hold.

@[simp] theorem Pack.define_state : (q.define r).state = q.state := rfl

@[simp] theorem Pack.define_hold : (q.define r).hold = q.hold := rfl

-- PACK_DEFINE's act: one equation for each outcome.

theorem packDefine_badField (h : validTag r.tag = false ∨ PackReq.fieldsOk r = false) : packDefine r s = refuse .badField s :=
  if_pos h

theorem packDefine_unknown (ht : validTag r.tag = true) (hf : PackReq.fieldsOk r = true) (h : s.findTag r.tag = none) :
    packDefine r s = refuse .noSuchPack s := by
  simp [packDefine, ht, hf, h]

theorem packDefine_wrongState (ht : validTag r.tag = true) (hf : PackReq.fieldsOk r = true) (h : s.findTag r.tag = some (n, q))
    (hs : q.state = .reserved ∨ q.state = .onLoader ∨ q.state = .onTruck) : packDefine r s = refuse .wrongState s := by
  rcases hs with hs | hs | hs <;> simp [packDefine, ht, hf, h, hs]

theorem packDefine_accepted (ht : validTag r.tag = true) (hf : PackReq.fieldsOk r = true) (h : s.findTag r.tag = some (n, q))
    (hs : q.state = .inbound ∨ q.state = .stored ∨ q.state = .lost ∨ q.state = .orphaned) :
    packDefine r s = ((s.setPack n (q.define r)).passOn n, fun _ => .only .ok) := by
  rcases hs with hs | hs | hs | hs <;> simp [packDefine, ht, hf, h, hs]

/-- A PACK_DEFINE refused leaves the yard as it was. -/
theorem packDefine_refused {a : Result} (h : s.Serves .o) (ha : packDefine r s.clearMarks = refuse a s.clearMarks) :
    s.Answers (.packDefine .o 14 r) .o 0xC5 (.only a) s :=
  State.station_same (m := .packDefine) (act := packDefine r) rfl h rfl rfl ha rfl rfl

/-- A PACK_DEFINE taken: the yard it leaves is that of the written record, passed on as new stock where R11 says so, and settled. -/
theorem packDefine_answers {v : State} (h : s.Serves .o) (ht : validTag r.tag = true) (hf : PackReq.fieldsOk r = true)
    (hfound : s.findTag r.tag = some (n, q)) (hs : q.state = .inbound ∨ q.state = .stored ∨ q.state = .lost ∨ q.state = .orphaned)
    (hy : ((s.clearMarks.setPack n (q.define r)).passOn n).settle.yard = v.yard) :
    s.Answers (.packDefine .o 14 r) .o 0xC5 (.only .ok) v :=
  State.station_answers (m := .packDefine) (act := packDefine r) rfl h rfl rfl
    (packDefine_accepted (s := s.clearMarks) ht hf hfound hs) (by simp) (by simp) rfl rfl hy

/-- Settles O19: the refusals in their order, then an accepted definition by whether the pack is passed on. -/
theorem packDefineWritesTheRecord : Obligations.PackDefineWritesTheRecord := by
  intro r s h
  refine ⟨fun hbad => packDefine_refused h (packDefine_badField hbad),
    fun ht hf hnone => packDefine_refused h (packDefine_unknown ht hf hnone), fun n q ht hf hfound => ⟨fun hs => ?_, fun hs => ?_, ?_⟩⟩
  · exact packDefine_refused h (packDefine_wrongState ht hf hfound hs)
  · have hstate : q.state = .inbound ∨ q.state = .stored ∨ q.state = .lost ∨ q.state = .orphaned := by tauto
    have hkept : (q.define r).state ≠ .stored ∨ (q.define r).hold = true := by
      rcases hs with hs | hs | hs | ⟨hs, hhold⟩ <;> simp [*]
    refine packDefine_answers h ht hf hfound hstate ?_
    rw [State.passOn_unchanged State.pack?_setPack_same hkept, State.settle_quiet _ rfl]
    rfl
  · intro hs hhold
    refine packDefine_answers h ht hf hfound (.inr (.inl hs)) ?_
    rw [State.passOn_new_stock (q := q.define r) State.pack?_setPack_same hs hhold]
    rfl

end Sys2Proof.Machine
end

section
/-! SUPPORT. DECK_QUERY (R64): its items as Table 4-1 counts them, its answer by the yard's condition, and the statement O11. -/
namespace Sys2Proof.Machine

variable {s : State}

/-- The items of DECK_QUERY with the lifted PUT count written as the count of tasks it is (Table 4-1). -/
theorem State.deckView_eq (s : State) :
    s.deckView = ⟨s.deck.length, s.tasks.countP (fun k => k.kind == .put && k.state == .lifted), s.pins.millHold, s.millHigh, s.millLow,
      s.deck.map s.deckRow⟩ := rfl

/-- A state's marks are no part of what DECK_QUERY reads. -/
@[simp] theorem State.deckView_clearMarks (s : State) : s.clearMarks.deckView = s.deckView := rfl

theorem deckQuery_ready_answers (h : s.Serves .t) : s.Answers (.deckQuery .t 0) .t 0xA2 (.deck s.deckView) s :=
  State.station_same (m := .deckQuery) (act := deckQuery) rfl h rfl rfl rfl rfl (by rw [State.deckView_clearMarks])

theorem deckQuery_starting_answers (h : s.Takes .t) (hc : s.cond = .starting) :
    s.Answers (.deckQuery .t 0) .t 0xA2 (.only .starting) s :=
  State.starting_answers (m := .deckQuery) (act := deckQuery) rfl h rfl rfl hc (by decide) rfl

/-- Settles O11: by the yard's condition, DECK_QUERY's own act, which changes nothing, or the link's STARTING (R171). -/
theorem deckQueryReadsTheDeck : Obligations.DeckQueryReadsTheDeck := by
  intro s h
  refine ⟨fun hready => ?_, fun hstarting => deckQuery_starting_answers h hstarting⟩
  rw [← State.deckView_eq]
  exact deckQuery_ready_answers ⟨h, hready⟩

end Sys2Proof.Machine
end

section
/-! SUPPORT. HELLO (R152): its items after its own arrival (R142), its answer by the yard's condition, and the statement O12. -/
namespace Sys2Proof.Machine

variable {s : State} {n : Fin 8}

-- What HELLO reads.

/-- The silence limit is a setting, which a frame's arrival leaves as it was. -/
theorem State.silenceLimit_hear (s : State) (p : Port) : (s.hear p).silenceLimit = s.silenceLimit := by
  simp [State.silenceLimit, State.setting]

/-- A state's marks are no part of what HELLO reads. -/
@[simp] theorem State.helloView_clearMarks (s : State) (n : Nat) : s.clearMarks.helloView n = s.helloView n := rfl

/-- The items of HELLO as its arrival leaves them: the loader's own from the yard that has heard it, the silence limit as it stood. -/
theorem State.helloView_hear (s : State) (p : Port) (n : Nat) :
    (s.hear p).helloView n = ⟨n, ((s.hear p).loader n).mode, (s.hear p).effective n, s.silenceLimit,
      (((s.hear p).loader n).current.bind (s.hear p).task?).map Task.mark, ((s.hear p).loader n).previous.map Previous.mark⟩ := by
  rw [← State.silenceLimit_hear s p]
  rfl

-- What the link makes of HELLO (R151, R171): it is none of the messages refused OFFLINE.

theorem gated_hello_ready (act : Act) (hc : s.cond = .ready) : gated .hello (.l n) 0 0 act s = act s :=
  State.gated_open act (State.linkAnswer_none rfl hc (.inl rfl))

theorem gated_hello_starting (act : Act) (hc : s.cond = .starting) :
    gated .hello (.l n) 0 0 act s = (s, fun _ => .only .starting) := by
  have hlink : s.linkAnswer .hello (.l n) 0 0 = some (.only .starting) := by
    simp [State.linkAnswer, Msg.permitted, loaderOf, hc]
  simp [gated, hlink]

-- The answer, whatever the loader's office mode.

theorem exec_hello (s : State) (n : Fin 8) :
    exec (.hello (.l n) 0) s = .next (s.request .hello (.l n) 0 0 [] (hello n.val)) := rfl

theorem hello_ready_answers (h : s.Takes (.l n)) (hc : s.cond = .ready) :
    s.Answers (.hello (.l n) 0) (.l n) 0xB0 (.hello ((s.hear (.l n)).helloView n.val)) (s.hear (.l n)) := by
  have hheard : (s.hear (.l n)).clearMarks.cond = .ready := by simp [hc]
  have hans := State.answers_of (exec_hello s n) h (gated_hello_ready _ hheard) (by simp) (by simp) rfl rfl
  rw [State.settle_clearMarks, State.helloView_clearMarks] at hans
  exact hans.of_yard rfl

theorem hello_starting_answers (h : s.Takes (.l n)) (hc : s.cond = .starting) :
    s.Answers (.hello (.l n) 0) (.l n) 0xB0 (.only .starting) (s.hear (.l n)) :=
  have hheard : (s.hear (.l n)).clearMarks.cond = .starting := by simp [hc]
  State.answers_same (exec_hello s n) h (gated_hello_starting _ hheard) rfl

/-- Settles O12: by the yard's condition, HELLO's own act, which changes nothing in the yard that has heard it, or the link's STARTING
(R171). -/
theorem helloReadsTheLoader : Obligations.HelloReadsTheLoader := by
  intro n s h
  refine ⟨fun hready => ?_, hello_starting_answers h⟩
  rw [← State.helloView_hear]
  exact hello_ready_answers h hready

end Sys2Proof.Machine
end

section
/-! SUPPORT. The Shipment Log: the record appended (R164) and SHIP_READ (R165) in each of their cases, the answer to a message on a port
that does not carry it (R171), and the statement O16. -/
namespace Sys2Proof.Machine

variable {s : State} {p : Port} {r : Shipment} {rest : List Shipment}

-- The record appended (R164).

theorem State.logShipment_append (r : Shipment) (h : s.shipLog.length < 32) :
    s.logShipment r = { s with shipLog := s.shipLog ++ [r] } := if_pos h

theorem Event.mask_logOverwrite : Event.logOverwrite.mask = 0x1000#16 := by decide

theorem State.logShipment_overwrite (r : Shipment) (h : 32 ≤ s.shipLog.length) :
    s.logShipment r = { s with shipLog := s.shipLog.drop 1 ++ [r], flags := s.flags ||| 0x1000#16 } := by
  have hfull : ¬ s.shipLog.length < Config.logSize := Nat.not_lt.2 h
  rw [State.logShipment, if_neg hfull, State.raise, Event.mask_logOverwrite, List.drop_one]

-- SHIP_READ's act (R165): one equation for each outcome.

theorem shipRead_empty (h : s.shipLog = []) : shipRead s = refuse .empty s := by
  simp [shipRead, h]

theorem shipRead_head (h : s.shipLog = r :: rest) :
    shipRead s = ({ s with shipLog := rest }, fun left => .shipment r left.shipLog.length) := by
  simp [shipRead, h]

-- A message on a port that does not carry it (R171).

theorem gated_notOnThisPort {m : Msg} {len want : Nat} (act : Act) (h : m.permitted p = false) :
    gated m p len want act s = (s, fun _ => .only .notOnThisPort) := by
  simp [gated, State.linkAnswer, h]

theorem notOnThisPort_answers {i : Instr} {m : Msg} {len want c : Nat} {fields : List Byte} {act : Act}
    (he : exec i s = .next (s.request m p len want fields act)) (h : s.Takes p) (hm : m.permitted p = false)
    (hc : answerCode m.code = c) : s.Answers i p c (.only .notOnThisPort) (s.hear p) :=
  State.answers_same he h (gated_notOnThisPort act hm) hc

-- SHIP_READ's answers.

theorem shipRead_empty_answers (h : s.Serves .o) (hlog : s.shipLog = []) :
    s.Answers (.shipRead .o 0) .o 0xCC (.only .empty) s :=
  State.station_same (m := .shipRead) rfl h rfl rfl (shipRead_empty (s := s.clearMarks) hlog) rfl rfl

/-- Taking the head of the log owes the yard nothing, so that the settling after it leaves the rest of the log to be counted. -/
theorem shipRead_head_answers (h : s.Serves .o) (hlog : s.shipLog = r :: rest) :
    s.Answers (.shipRead .o 0) .o 0xCC (.shipment r rest.length) { s with shipLog := rest } := by
  have hquiet : State.settle { s.clearMarks with shipLog := rest } = { s.clearMarks with shipLog := rest } := State.settle_quiet _ rfl
  refine State.station_answers (m := .shipRead) rfl h rfl rfl (shipRead_head (s := s.clearMarks) hlog) rfl rfl rfl ?_ ?_
  · rw [hquiet]
  · rw [hquiet]
    rfl

theorem shipRead_starting_answers (h : s.Takes .o) (hc : s.cond = .starting) :
    s.Answers (.shipRead .o 0) .o 0xCC (.only .starting) s :=
  State.starting_answers (m := .shipRead) (act := shipRead) rfl h rfl rfl hc (by decide) rfl

theorem shipRead_notOnThisPort_answers (hp : p ≠ .o) (h : s.Takes p) :
    s.Answers (.shipRead p 0) p 0xCC (.only .notOnThisPort) (s.hear p) := by
  have hforbidden : Msg.permitted .shipRead p = false := beq_false_of_ne hp
  exact notOnThisPort_answers (m := .shipRead) (act := shipRead) rfl h hforbidden rfl

/-- Settles O16: the log with room or full, then SHIP_READ by the yard's condition and the log's head on port O, and the link's own answer
on every other port. -/
theorem shipmentLogIsFirstInFirstOut : Obligations.ShipmentLogIsFirstInFirstOut := by
  intro s
  refine ⟨State.logShipment_append, State.logShipment_overwrite, fun h => ⟨fun hready hlog => ?_, fun r rest hready hlog => ?_, ?_⟩,
    fun p hp h => shipRead_notOnThisPort_answers hp h⟩
  · exact shipRead_empty_answers ⟨h, hready⟩ hlog
  · exact shipRead_head_answers ⟨h, hready⟩ hlog
  · exact shipRead_starting_answers h

end Sys2Proof.Machine
end

section
/-! SUPPORT. STATUS (R173): what the arrival of its frame leaves of its items, its way past the link in either condition of the yard, and
the statement O7. -/
namespace Sys2Proof.Machine

variable {s : State}

-- The pool through the arrival of a frame: coming up moves tasks between loaders and removes none (R147).

@[simp] theorem State.comeUp_tasks_length (s : State) : s.comeUp.tasks.length = s.tasks.length := by
  simp [State.comeUp, State.reassign]

@[simp] theorem State.asHeard_tasks (s : State) (n : Nat) : (s.asHeard n).tasks = s.tasks := rfl

@[simp] theorem State.hear_tasks_length (s : State) (p : Port) : (s.hear p).tasks.length = s.tasks.length := by
  cases p with
  | l n =>
    simp only [State.hear, loaderOf, State.linkUp_eq]
    split <;> simp
  | g | t | o => rfl

-- What STATUS reads.

/-- A state's marks are no part of what STATUS reads. -/
@[simp] theorem State.statusView_clearMarks (s : State) : s.clearMarks.statusView = s.statusView := rfl

/-- The items of STATUS as its arrival leaves them: the engine and the loaders from the yard that has heard it, the rest as it stood. -/
theorem State.statusView_hear (s : State) (p : Port) :
    (s.hear p).statusView = ⟨s.cond, s.cause, s.flags, s.clock.minute, s.clock.stale, (s.hear p).engine, s.trucks.length,
      s.waiting.length, s.packs.length, s.tasks.length, s.deck.length, s.pins.gateHold, s.pins.millHold, s.pins.ready,
      (List.range 8).map (fun n => effectiveOf ((s.hear p).loader n).mode ((s.hear p).loader n).linked)⟩ := by
  have hloaders : (List.range Config.loaderCount).map (s.hear p).effective =
      (List.range 8).map (fun n => effectiveOf ((s.hear p).loader n).mode ((s.hear p).loader n).linked) := rfl
  simp [State.statusView, hloaders]

-- The link lets STATUS through on every port, the yard READY or STARTING (R171).

theorem State.linkAnswer_status (s : State) (p : Port) : s.linkAnswer .status p 0 0 = none := by
  simp [State.linkAnswer, Msg.permitted, Msg.refusedOffline]

theorem exec_status (s : State) (p : Port) : exec (.status p 0) s = .next (s.request .status p 0 0 [] status) := rfl

theorem status_answers {p : Port} (h : s.Takes p) :
    s.Answers (.status p 0) p 0x81 (.status (s.hear p).statusView) (s.hear p) := by
  have hopen : gated .status p 0 0 status (s.hear p).clearMarks = status (s.hear p).clearMarks :=
    State.gated_open status (State.linkAnswer_status _ p)
  have hans := State.answers_of (exec_status s p) h hopen (by simp) (by simp) rfl rfl
  rw [State.settle_clearMarks, State.statusView_clearMarks] at hans
  exact hans.of_yard rfl

/-- Settles O7: STATUS passes the link whatever the condition, its act changes nothing, and its view is read after the arrival. -/
theorem statusIsAnswered : Obligations.StatusIsAnswered := by
  intro p s htakes h
  rw [← State.statusView_hear]
  exact status_answers htakes

end Sys2Proof.Machine
end

section
/-! SUPPORT. A station's message whose act leaves nothing to settle, as EVENT_ACK and CLOCK_SET are. -/
namespace Sys2Proof.Machine

/-- A station's message served by an act that owes the yard nothing: what the act gives is what the row leaves and answers from. -/
theorem State.station_quiet {s : State} {i : Instr} {m : Msg} {p : Port} {len c : Nat} {fields : List Byte} {act : Act} {u v : State}
    {f : State → Answer} {a : Answer}
    (he : exec i s = .next (s.request m p len len fields act)) (h : s.Serves p) (hst : isStation p = true) (hm : m.permitted p = true)
    (ha : act s.clearMarks = (u, f)) (hp : u.ports = s.ports) (hr : u.retained = s.retained) (hq : u.marks = {})
    (hc : answerCode m.code = c) (hans : f u = a) (hy : u.yard = v.yard) : s.Answers i p c a v := by
  have hsettle : u.settle = u := State.settle_quiet u hq
  exact State.station_answers he h hst hm ha hp hr hc (by rw [hsettle, hans]) (by rw [hsettle, hy])

end Sys2Proof.Machine
end

section
/-! SUPPORT. EVENT_ACK (R176): the flags an acknowledgement leaves, its answer by the yard's condition, and the statement O8. -/
namespace Sys2Proof.Machine

variable {s : State}

theorem Event.bit_lt (e : Event) : e.bit < 16 := by
  cases e <;> decide

/-- An acknowledgement makes no exactly the flags its set names. -/
theorem State.flag_acknowledge (s : State) (set : FlagSet) (e : Event) :
    (s.acknowledge set).flag e = (s.flag e && !set.getLsbD e.bit) := by
  simp [State.flag, Event.bit_lt]

theorem eventAck_ready_answers {p : Port} (set : FlagSet) (hst : isStation p = true) (h : s.Serves p) :
    s.Answers (.eventAck p 2 set) p 0x82 (.events (s.flags &&& ~~~set)) (s.acknowledge set) :=
  State.station_quiet (m := .eventAck) (act := eventAck set) rfl h hst hst rfl rfl rfl rfl rfl rfl rfl

theorem eventAck_starting_answers {p : Port} (set : FlagSet) (hst : isStation p = true) (h : s.Takes p) (hc : s.cond = .starting) :
    s.Answers (.eventAck p 2 set) p 0x82 (.only .starting) s :=
  State.starting_answers (m := .eventAck) (act := eventAck set) rfl h hst hst hc (by decide) rfl

/-- Settles O8: by the yard's condition, EVENT_ACK's own act, whose flags are told one by one, or the link's STARTING (R171). -/
theorem eventAckClearsTheNamedFlags : Obligations.EventAckClearsTheNamedFlags := by
  intro p set s hst h
  refine ⟨fun hready => ⟨?_, s.flag_acknowledge set⟩, fun hstarting => ?_⟩
  · exact eventAck_ready_answers set hst ⟨h, hready⟩
  · exact eventAck_starting_answers set hst h hstarting

end Sys2Proof.Machine
end

section
/-! SUPPORT. CLOCK_SET (R181): its answer by the yard's condition, and the statement O14. -/
namespace Sys2Proof.Machine

variable {s : State}

theorem clockSet_ready_answers (minute : Minute) (h : s.Serves .o) :
    s.Answers (.clockSet .o 4 minute) .o 0xCD (.clock minute false) { s with clock := ⟨minute, false, 0⟩ } :=
  State.station_quiet (m := .clockSet) (act := clockSet minute) rfl h rfl rfl rfl rfl rfl rfl rfl rfl rfl

theorem clockSet_starting_answers (minute : Minute) (h : s.Takes .o) (hc : s.cond = .starting) :
    s.Answers (.clockSet .o 4 minute) .o 0xCD (.only .starting) s :=
  State.starting_answers (m := .clockSet) (act := clockSet minute) rfl h rfl rfl hc (by decide) rfl

/-- Settles O14: by the yard's condition, CLOCK_SET's own act, which writes the clock alone, or the link's STARTING (R171). -/
theorem clockSetWritesTheClock : Obligations.ClockSetWritesTheClock := by
  intro minute s h
  refine ⟨fun hready => ?_, fun hstarting => ?_⟩
  · exact clockSet_ready_answers minute ⟨h, hready⟩
  · exact clockSet_starting_answers minute h hstarting

end Sys2Proof.Machine
end

section
/-! SUPPORT. CFG_GET (R188): the value it gives for an item's entry on the write list, what its act gives in each of its cases, and the
statement O13. -/
namespace Sys2Proof.Machine

variable {s : State} {l : List WriteEntry} {kind index item v : Nat} {k : SettingKind}

-- The value of an item's entry among some entries.

theorem itemValue_eq_none_iff : itemValue l item = none ↔ ∀ e ∈ l, e.item ≠ item := by
  simp [itemValue]

theorem exists_entry_of_itemValue (h : itemValue l item = some v) : ∃ e ∈ l, e.item = item ∧ e.value = v := by
  obtain ⟨e, hfound, hvalue⟩ := Option.map_eq_some_iff.1 h
  exact ⟨e, List.mem_of_find?_eq_some hfound, by simpa using List.find?_some hfound, hvalue⟩

-- The write list is its entry in writing and its waiting entries (R187).

theorem State.inWriting_append_waitingWrites (s : State) : s.inWriting ++ s.waitingWrites = s.writeList := by
  unfold State.inWriting State.waitingWrites
  split
  · exact List.take_append_drop 1 s.writeList
  · exact List.nil_append s.writeList

theorem State.mem_writeList_iff {e : WriteEntry} : e ∈ s.writeList ↔ e ∈ s.waitingWrites ∨ e ∈ s.inWriting := by
  rw [← State.inWriting_append_waitingWrites, List.mem_append, or_comm]

-- The pending value (R188). Each statement holds whichever entry the free value of log 39 shows.

theorem State.pendingValue_eq_none :
    s.pendingValue item = none ↔ itemValue s.waitingWrites item = none ∧ itemValue s.inWriting item = none := by
  cases hw : itemValue s.waitingWrites item <;> cases hh : itemValue s.inWriting item <;> simp [State.pendingValue, hw, hh]

theorem State.itemValue_of_pendingValue (h : s.pendingValue item = some v) :
    itemValue s.waitingWrites item = some v ∨ itemValue s.inWriting item = some v := by
  unfold State.pendingValue at h
  split at h
  next w i hw hi =>
    rw [hw, hi, ← h]
    cases Config.pendingShowsWaiting
    · exact .inr rfl
    · exact .inl rfl
  next hw _ => exact .inl (hw.trans h)
  next => exact .inr h

theorem State.pendingValue_eq_none_iff : s.pendingValue item = none ↔ ∀ e ∈ s.writeList, e.item ≠ item := by
  simp only [State.pendingValue_eq_none, itemValue_eq_none_iff, State.mem_writeList_iff, or_imp, forall_and]

theorem State.exists_entry_of_pendingValue (h : s.pendingValue item = some v) :
    ∃ e ∈ s.writeList, e.item = item ∧ e.value = v := by
  rcases State.itemValue_of_pendingValue h with hval | hval <;> obtain ⟨e, hmem, hentry⟩ := exists_entry_of_itemValue hval
  · exact ⟨e, State.mem_writeList_iff.2 (.inl hmem), hentry⟩
  · exact ⟨e, State.mem_writeList_iff.2 (.inr hmem), hentry⟩

-- CFG_GET's act: one equation for each outcome.

theorem cfgGet_unknown (h : SettingKind.ofNum kind = none) : cfgGet kind index s = refuse .badField s := by
  simp [cfgGet, h]

theorem cfgGet_outOfRange (h : SettingKind.ofNum kind = some k) (hi : k.count ≤ index) :
    cfgGet kind index s = refuse .badField s := by
  simp [cfgGet, h, hi]

theorem cfgGet_known (h : SettingKind.ofNum kind = some k) (hi : index < k.count) :
    cfgGet kind index s =
      (s, fun left => .cfgGet kind (left.setting k index) (left.storedSetting k index) (left.pendingValue (k.key index))) := by
  simp [cfgGet, h, Nat.not_le.2 hi]

/-- CFG_GET's act decides its answer on the state without marks, whose settings and write list are those of `s`. -/
theorem cfgGet_answers {f : State → Answer} {a : Answer} (h : s.Serves .o)
    (ha : cfgGet kind index s.clearMarks = (s.clearMarks, f)) (hf : f s.clearMarks = a) :
    s.Answers (.cfgGet .o 2 kind index) .o 0xC1 a s :=
  State.station_same (m := .cfgGet) rfl h rfl rfl ha rfl hf

/-- Settles O13: the refusals of a kind and of an index, then an item of Table 11-2, whose pending value is that of an entry of the write
list, in writing or waiting. -/
theorem cfgGetReadsOneItem : Obligations.CfgGetReadsOneItem := by
  intro kind index s h
  refine ⟨fun hkind => cfgGet_answers h (cfgGet_unknown hkind) rfl, fun k hkind => ⟨fun hi => ?_, fun hi => ?_⟩⟩
  · exact cfgGet_answers h (cfgGet_outOfRange hkind hi) rfl
  · exact ⟨s.pendingValue (k.key index), cfgGet_answers h (cfgGet_known hkind hi) rfl, State.pendingValue_eq_none_iff,
      fun v => State.exists_entry_of_pendingValue⟩

end Sys2Proof.Machine
end
